-- ==== Sys2Proof/Word.lean ====
section
/-! DEFINITION. The datapath word, the byte and the group of four words A, B, C, D
(00_scope.md R6: WORD 32 bits, BYTE 8 bits, STATE_WORDS 4). -/

namespace Sys2Proof

/-- WORD, the width of every datapath word (R6). -/
abbrev Word := BitVec 32

/-- BYTE (R6). -/
abbrev Byte := BitVec 8

/-- Four words "conventionally named A, B, C, D" (10_state.md R22, R24): the chaining state H
and the working registers W each are one. -/
structure Quad where
  a : Word
  b : Word
  c : Word
  d : Word
deriving DecidableEq, Repr

/-- All four words zero, the reset value of H and of W (10_state.md R45). -/
def Quad.zero : Quad := ⟨0, 0, 0, 0⟩

end Sys2Proof
end

