-- ==== Sys2Proof/Syntax.lean ====
section
/-! DEFINITION. The syntax: one constructor per row of spec/opcode_table.json (30_encoding.md R98):
the ten commands of format CMD (R91) and the 64 step operations of format USTEP (R93). No row has an
operand (R92), so no constructor has a field. -/

namespace Sys2Proof

/-- The rows of spec/opcode_table.json. `ustep<i>` is the row USTEP.i, the operation of U_STEP when
the step counter STEP is i (42_round.md R153; quartiles R154 to R157). -/
inductive Instr where
  /-- NOP, 0x00000000 (44_formatter_and_system.md R192). -/
  | nop
  /-- INIT, 0x00000001 (43_accumulator.md R170). -/
  | init
  /-- CHKRST, 0x00000002 (41_chunker.md R131). -/
  | chkrst
  /-- CHKNXT, 0x00000003 (41_chunker.md R133). -/
  | chknxt
  /-- LOADW, 0x00000004 (42_round.md R150). -/
  | loadw
  /-- ROUND, 0x00000005 (42_round.md R152). -/
  | round
  /-- CHAIN, 0x00000006 (43_accumulator.md R172). -/
  | chain
  /-- SERIAL, 0x00000007 (43_accumulator.md R174). -/
  | serial
  /-- COMPUTE, 0x00000008 (43_accumulator.md R176). -/
  | compute
  /-- HEXFMT, 0x00000009 (44_formatter_and_system.md R190). -/
  | hexfmt
  -- quartile 0, steps 0 to 15
  | ustep0 | ustep1 | ustep2 | ustep3 | ustep4 | ustep5 | ustep6 | ustep7
  | ustep8 | ustep9 | ustep10 | ustep11 | ustep12 | ustep13 | ustep14 | ustep15
  -- quartile 1, steps 16 to 31
  | ustep16 | ustep17 | ustep18 | ustep19 | ustep20 | ustep21 | ustep22 | ustep23
  | ustep24 | ustep25 | ustep26 | ustep27 | ustep28 | ustep29 | ustep30 | ustep31
  -- quartile 2, steps 32 to 47
  | ustep32 | ustep33 | ustep34 | ustep35 | ustep36 | ustep37 | ustep38 | ustep39
  | ustep40 | ustep41 | ustep42 | ustep43 | ustep44 | ustep45 | ustep46 | ustep47
  -- quartile 3, steps 48 to 63
  | ustep48 | ustep49 | ustep50 | ustep51 | ustep52 | ustep53 | ustep54 | ustep55
  | ustep56 | ustep57 | ustep58 | ustep59 | ustep60 | ustep61 | ustep62 | ustep63
deriving DecidableEq, Repr

end Sys2Proof
end

