-- ==== Sys2Proof/WellFormed.lean ====
section
/-! DEFINITION. What must hold of a command word before it names a command (30_encoding.md R90,
R94), and of an instruction as syntax. -/

namespace Sys2Proof

/-- The OPCODE field, bits 7:0 of a command word (R90). -/
def opcodeField (v : Word) : BitVec 8 := v.extractLsb' 0 8

/-- The ZERO field, bits 31:8 of a command word (R90). -/
def zeroField (v : Word) : BitVec 24 := v.extractLsb' 8 24

namespace WellFormed

/-- Bits 31:8 "must be 0; any other value makes the word illegal" (R90). -/
def zeroFieldOk (v : Word) : Bool := zeroField v == 0

/-- OPCODE is one of 0x00 to 0x09 (R91); "0x0A..0xFF" is illegal (R94). -/
def opcodeOk (v : Word) : Bool := decide (opcodeField v ≤ 0x09)

/-- A command word is well formed when both checks of R94 pass. -/
def commandWord (v : Word) : Bool := zeroFieldOk v && opcodeOk v

/-- "No command has an explicit operand" (R92) and a step row has none either (R93): an instruction
as syntax has no field that could be ill formed, so every instruction is well formed. -/
def instr (_ : Instr) : Bool := true

end WellFormed

end Sys2Proof
end

