-- ==== Sys2Proof/Decode.lean ====
section
/-! DEFINITION. Decoding and encoding. The hardware has two places where bits select an operation:
the word written to CMD (30_encoding.md R90, R91) and the step counter STEP (R93). Both decoders are
total; a command word is rejected by the name of the check it fails (R94), a step counter never is. -/

namespace Sys2Proof

/-- The bits an instruction is read from, by the format of its row (R98). -/
inductive Source where
  /-- format CMD: the 32-bit value written to register 0 -/
  | cmdWord (v : Word)
  /-- format USTEP: the value of the 6-bit counter STEP -/
  | stepCounter (i : BitVec 6)
deriving DecidableEq, Repr

/-- Why a command word names no command (R94). -/
inductive Rejection where
  /-- bits 31:8 are not all zero -/
  | zeroFieldNotZero
  /-- OPCODE is in 0x0A..0xFF -/
  | opcodeUndefined
deriving DecidableEq, Repr

/-- The opcode map (R91). -/
def decodeOpcode (op : BitVec 8) : Option Instr :=
  match op.toNat with
  | 0 => some .nop
  | 1 => some .init
  | 2 => some .chkrst
  | 3 => some .chknxt
  | 4 => some .loadw
  | 5 => some .round
  | 6 => some .chain
  | 7 => some .serial
  | 8 => some .compute
  | 9 => some .hexfmt
  | _ => none

/-- The CMD decoder (R90, R91, R94). -/
def decodeCommand (v : Word) : Except Rejection Instr :=
  if zeroField v = 0 then
    match decodeOpcode (opcodeField v) with
    | some i => .ok i
    | none => .error .opcodeUndefined
  else .error .zeroFieldNotZero

/-- The 64 USTEP rows in the order of their `match` (R98). -/
def stepInstrs : Vector Instr 64 :=
  #v[.ustep0, .ustep1, .ustep2, .ustep3, .ustep4, .ustep5, .ustep6, .ustep7,
    .ustep8, .ustep9, .ustep10, .ustep11, .ustep12, .ustep13, .ustep14, .ustep15,
     .ustep16, .ustep17, .ustep18, .ustep19, .ustep20, .ustep21, .ustep22, .ustep23,
    .ustep24, .ustep25, .ustep26, .ustep27, .ustep28, .ustep29, .ustep30, .ustep31,
     .ustep32, .ustep33, .ustep34, .ustep35, .ustep36, .ustep37, .ustep38, .ustep39,
    .ustep40, .ustep41, .ustep42, .ustep43, .ustep44, .ustep45, .ustep46, .ustep47,
     .ustep48, .ustep49, .ustep50, .ustep51, .ustep52, .ustep53, .ustep54, .ustep55,
    .ustep56, .ustep57, .ustep58, .ustep59, .ustep60, .ustep61, .ustep62, .ustep63]

/-- The step selector: STEP = i selects USTEP.i (R93). "`mask` is 0x3F applied to the step counter". -/
def stepInstr (i : BitVec 6) : Instr := stepInstrs[i.toNat]

/-- The decoder, total on every source. -/
def decode : Source → Except Rejection Instr
  | .cmdWord v => decodeCommand v
  | .stepCounter i => .ok (stepInstr i)

/-- The encoder: the command word of R91, or the step counter value of the USTEP row (R98). -/
def encode : Instr → Source
  | .nop => .cmdWord 0x00000000
  | .init => .cmdWord 0x00000001
  | .chkrst => .cmdWord 0x00000002
  | .chknxt => .cmdWord 0x00000003
  | .loadw => .cmdWord 0x00000004
  | .round => .cmdWord 0x00000005
  | .chain => .cmdWord 0x00000006
  | .serial => .cmdWord 0x00000007
  | .compute => .cmdWord 0x00000008
  | .hexfmt => .cmdWord 0x00000009
  | .ustep0 => .stepCounter 0
  | .ustep1 => .stepCounter 1
  | .ustep2 => .stepCounter 2
  | .ustep3 => .stepCounter 3
  | .ustep4 => .stepCounter 4
  | .ustep5 => .stepCounter 5
  | .ustep6 => .stepCounter 6
  | .ustep7 => .stepCounter 7
  | .ustep8 => .stepCounter 8
  | .ustep9 => .stepCounter 9
  | .ustep10 => .stepCounter 10
  | .ustep11 => .stepCounter 11
  | .ustep12 => .stepCounter 12
  | .ustep13 => .stepCounter 13
  | .ustep14 => .stepCounter 14
  | .ustep15 => .stepCounter 15
  | .ustep16 => .stepCounter 16
  | .ustep17 => .stepCounter 17
  | .ustep18 => .stepCounter 18
  | .ustep19 => .stepCounter 19
  | .ustep20 => .stepCounter 20
  | .ustep21 => .stepCounter 21
  | .ustep22 => .stepCounter 22
  | .ustep23 => .stepCounter 23
  | .ustep24 => .stepCounter 24
  | .ustep25 => .stepCounter 25
  | .ustep26 => .stepCounter 26
  | .ustep27 => .stepCounter 27
  | .ustep28 => .stepCounter 28
  | .ustep29 => .stepCounter 29
  | .ustep30 => .stepCounter 30
  | .ustep31 => .stepCounter 31
  | .ustep32 => .stepCounter 32
  | .ustep33 => .stepCounter 33
  | .ustep34 => .stepCounter 34
  | .ustep35 => .stepCounter 35
  | .ustep36 => .stepCounter 36
  | .ustep37 => .stepCounter 37
  | .ustep38 => .stepCounter 38
  | .ustep39 => .stepCounter 39
  | .ustep40 => .stepCounter 40
  | .ustep41 => .stepCounter 41
  | .ustep42 => .stepCounter 42
  | .ustep43 => .stepCounter 43
  | .ustep44 => .stepCounter 44
  | .ustep45 => .stepCounter 45
  | .ustep46 => .stepCounter 46
  | .ustep47 => .stepCounter 47
  | .ustep48 => .stepCounter 48
  | .ustep49 => .stepCounter 49
  | .ustep50 => .stepCounter 50
  | .ustep51 => .stepCounter 51
  | .ustep52 => .stepCounter 52
  | .ustep53 => .stepCounter 53
  | .ustep54 => .stepCounter 54
  | .ustep55 => .stepCounter 55
  | .ustep56 => .stepCounter 56
  | .ustep57 => .stepCounter 57
  | .ustep58 => .stepCounter 58
  | .ustep59 => .stepCounter 59
  | .ustep60 => .stepCounter 60
  | .ustep61 => .stepCounter 61
  | .ustep62 => .stepCounter 62
  | .ustep63 => .stepCounter 63

/-- The instruction the decoder reads from a row's bits. A row of at most 8 bits is a USTEP row and
its bits are the step counter, to which the table's mask 0x3F applies; a row of 32 bits is a command
word, stored little-endian as every word is (log 9). -/
def decodeTableWord (nbits w : Nat) : Option Instr :=
  if nbits ≤ 8 then (decode (.stepCounter (BitVec.ofNat 6 w))).toOption
  else if w < 2 ^ 32 then (decode (.cmdWord (BitVec.ofNat 32 w))).toOption
  else none

end Sys2Proof
end

