-- ==== Sys2Proof/Machine/Bits.lean ====
section
/-! DEFINITION. The bit, byte and arithmetic primitives of 00_scope.md R10 and R11. add32 is `+`,
and32 `&&&`, or32 `|||`, xor32 `^^^` and not32 `~~~` on `Word`, which wrap modulo 2^32 as R11 says. -/

namespace Sys2Proof.Machine

/-- Byte k of a word, `byte_k(w) = w[8k+7:8k]` (R10). -/
def byteOf (k : Nat) (w : Word) : Byte := w.extractLsb' (8 * k) 8

/-- Four bytes as a word, b0 least significant (R10): `b0 + 2^8·b1 + 2^16·b2 + 2^24·b3`. -/
def le32 (b0 b1 b2 b3 : Byte) : Word := b3 ++ b2 ++ b1 ++ b0

/-- The 32 bits of x rotated left by s places (R11, for 1 ≤ s ≤ 31; other amounts never occur,
93_implementation_defined.md U7, log 16). -/
def rotl32 (x : Word) (s : Nat) : Word := x.rotateLeft s

/-- "Added word-wise (modulo 2^32)": four independent add32 (43_accumulator.md R173). -/
def addQuad (x y : Quad) : Quad := ⟨x.a + y.a, x.b + y.b, x.c + y.c, x.d + y.d⟩

end Sys2Proof.Machine
end

