-- ==== Sys2Proof/Config.lean ====
section
/-! DEFINITION. What an implementation fixes (00_scope.md R7) and the one free value of the spec
(20_memory.md R66). -/

namespace Sys2Proof

/-- The parameters of one lane. MSG_CAP, the capacity of the message memory in bytes, is OPEN with
0 ≤ MSG_CAP ≤ 2^61 − 1 and no default (R7); the range is the type. "The model takes each as an
argument": it is a constant field of `State`, so a statement over all states holds for every
capacity (log 3). -/
structure Params where
  msgCap : Fin (2 ^ 61)
deriving DecidableEq, Repr

namespace Config

/-- The bound of the length precondition, 2^61 = MAXLEN + 1 (R6). -/
def lengthBound : Nat := 2 ^ 61

/-- DESIGN CHOICE (log 3): the capacity that `State.reset` has. "A model that wants GSSL's full
domain takes MSG_CAP = 2^61 − 1" (R7). -/
def fullCapacity : Params := ⟨⟨2 ^ 61 - 1, by decide⟩⟩

/-- NLANES, the number of lanes of a chip; default 1 (R7). -/
def nlanes : Nat := 1

/-- The content of a MSG byte that nothing has written since power-up: "a free value fixed at
power-up", which must not be assumed 0 (20_memory.md R66, 93_implementation_defined.md U4). The
first argument names the power-up, the second is the address. It has no body, so nothing can be
proved of its values (log 4). -/
opaque powerUpByte : Nat → Nat → Byte

end Config

end Sys2Proof
end

