-- ==== Sys2Proof/Machine/State.lean ====
section
/-! DEFINITION. The state of one lane, every piece the spec gives it (10_state.md R20), with the
model's own fields after it, and the state right after reset (10_state.md R45). -/

namespace Sys2Proof.Machine

/-- UPC, the micro-program counter: "eleven symbolic values" (10_state.md R38). -/
inductive UPC where
  | idle | uNop | uInit | uRst | uChunk | uLoadw | uStep | uChain | uSerial | uHex | fault
deriving DecidableEq, Repr

/-- The four faults a lane can enter (60_exceptions.md R210). These are faults OF THE LANE: the
machine goes on, in UPC = FAULT; see `Fault` for the model's stops. -/
inductive LaneFault where
  /-- E_ILLCMD, raised by a write of an illegal command word (R211) -/
  | illCmd
  /-- E_BUSY, raised by a write of CMD, LEN or MSG while BUSY = 1 (R212) -/
  | busy
  /-- E_LEN, raised by CHKRST or COMPUTE with an illegal LEN (R213) -/
  | len
  /-- E_SEQ, raised by CHKNXT when BLK = NBLK (R214) -/
  | seq
deriving DecidableEq, Repr

/-- The five host events (30_encoding.md R96); the operand widths are the types. -/
inductive HostEvent where
  /-- `RD r` -/
  | rd (r : BitVec 6)
  /-- `WR r, v` -/
  | wr (r : BitVec 6) (v : Word)
  /-- `MR a` -/
  | mr (a : BitVec 61)
  /-- `MW a, b` -/
  | mw (a : BitVec 61) (b : Byte)
  /-- `RESET` -/
  | reset
deriving DecidableEq, Repr

/-- One entry of a lane's total order of events (20_memory.md R70): a host event, a place where the
engine may perform one micro-operation, or the host's pseudo-instruction WAIT (30_encoding.md R97),
which stands for a row of `RD 1` events (log 1, log 7). -/
inductive Event where
  | host (e : HostEvent)
  | engine
  | wait
deriving DecidableEq, Repr

/-- The value a read returned to the host (30_encoding.md R96, column "result"). -/
inductive Reply where
  /-- the 32-bit value of an `RD` -/
  | word (v : Word)
  /-- the byte of an `MR` -/
  | byte (b : Byte)
deriving DecidableEq, Repr

/-- MSG: the written bytes as (address, byte) pairs, addresses strictly rising; an address that is
not listed has not been written since power-up (20_memory.md R66; log 5). -/
abbrev Memory := List Host.Cell

/-- One lane. Down to `msg` the fields are the spec's (10_state.md R20); the last four are the
model's own (INVENTORY.md, State). -/
structure State where
  /-- H.A to H.D, the chaining state (R24) -/
  h : Quad
  /-- W.A to W.D, the working registers (R22) -/
  w : Quad
  /-- M[0..15], the block buffer (R23) -/
  m : Vector Word 16
  /-- DIGEST[0..15] (R25) -/
  digest : Vector Byte 16
  /-- HEX[0..31] (R26) -/
  hex : Vector Byte 32
  /-- LEN, the message length as the host wrote it (R35) -/
  len : BitVec 64
  /-- MLEN, the latched length (R37) -/
  mlen : BitVec 61
  /-- NBLK, the number of blocks of the sequence (R36) -/
  nblk : BitVec 56
  /-- BLK, the index of the next block (R36) -/
  blk : BitVec 56
  /-- STEP, the step counter (R41) -/
  stepCtr : BitVec 6
  /-- UPC (R38) -/
  upc : UPC
  /-- AUTO (R39) -/
  auto : Bool
  /-- STATUS.BUSY (R30) -/
  busy : Bool
  /-- STATUS.DVALID (R31) -/
  dvalid : Bool
  /-- STATUS.LAST (R32) -/
  last : Bool
  /-- STATUS.ERR (R34) -/
  err : Bool
  /-- STATUS.ERRCODE (R34) -/
  errCode : BitVec 4
  /-- MSG (R42) -/
  msg : Memory
  /-- the implementation's parameters, constant (log 3) -/
  params : Params
  /-- which power-up contents MSG has, constant (log 4) -/
  powerUp : Nat
  /-- the lane's events still to come, in their total order (log 1) -/
  agenda : List Event
  /-- what reads have returned to the host, newest first (log 2) -/
  replies : List Reply
deriving DecidableEq, Repr

/-- A reason for the MODEL to stop with a fault. There is none: every event of the spec has an
effect in every state, the lane's own faults included, which are next states with UPC = FAULT
(60_exceptions.md R216, R217; log 15). Nobody raises one. -/
inductive Fault
deriving DecidableEq, Repr

/-- A reason for the model to refuse an instruction. -/
inductive Refusal where
  /-- The instruction has no meaning in the model yet. Raised by an arm of `exec` only, and no arm
  of this model raises it; safe. -/
  | notModelled (mnemonic : String)
deriving DecidableEq, Repr

/-- The lane right after reset, every value as 10_state.md R45 gives it. The model's own fields are
DESIGN CHOICES: full capacity (log 3), power-up 0, nothing on the agenda, no reply (log 20). -/
def State.reset : State where
  h := Quad.zero
  w := Quad.zero
  m := Vector.replicate 16 0
  digest := Vector.replicate 16 0
  hex := Vector.replicate 32 0
  len := 0
  mlen := 0
  nblk := 0
  blk := 0
  stepCtr := 0
  upc := .idle
  auto := false
  busy := false
  dvalid := false
  last := false
  err := false
  errCode := 0
  msg := []
  params := Config.fullCapacity
  powerUp := 0
  agenda := []
  replies := []

end Sys2Proof.Machine
end

