-- ==== Sys2Proof/Machine/Ops.lean ====
section
/-! DEFINITION. The shared operations: the message memory, entering and leaving the fault state, the
guard of a host write, accepting a command, and the sequencer's two ways to end a micro-operation. -/

namespace Sys2Proof.Machine

/-! ### The message memory MSG (20_memory.md R61 to R67) -/

/-- What an address that is not listed holds as data: no value, "not written since power-up" (R66;
log 5). -/
def Memory.unlisted : Option Byte := none

/-- The byte the host has written at an address, if it has written one. -/
def Memory.written : Memory → Nat → Option Byte
  | [], _ => Memory.unlisted
  | (k, v) :: rest, a => if k = a then some v else Memory.written rest a

/-- `MemWrite(a, 1, b)` on the list of written bytes (00_scope.md R12). -/
def Memory.store : Memory → Nat → Byte → Memory
  | [], a, b => [(a, b)]
  | (k, v) :: rest, a, b =>
    if a < k then (a, b) :: (k, v) :: rest
    else if a = k then (a, b) :: rest
    else (k, v) :: Memory.store rest a b

/-- The canonical form: addresses strictly rising. An entry is always a written byte, so none equals
what an unlisted address holds (log 5). -/
def Memory.wf : Memory → Bool
  | [] => true
  | (k, _) :: rest => (rest.all fun c => decide (k < c.1)) && Memory.wf rest

/-- Every listed address is below a bound, as every address of MSG is below MSG_CAP (R61). -/
def Memory.below (bound : Nat) (mem : Memory) : Bool := mem.all fun c => decide (c.1 < bound)

/-- `MemRead(a, 1)` (00_scope.md R12): the byte written last, or the unspecified but stable byte of
this power-up (20_memory.md R66). -/
def memRead (s : State) (a : Nat) : Byte :=
  (Memory.written s.msg a).getD (Config.powerUpByte s.powerUp a)

/-- MSG_CAP of this lane (00_scope.md R7). -/
def msgCap (s : State) : Nat := s.params.msgCap.val

/-- What `MR a` returns: MSG[a], or 0 at or above MSG_CAP (44_formatter_and_system.md R199). -/
def msgRead (s : State) (a : BitVec 61) : Byte :=
  if a.toNat < msgCap s then memRead s a.toNat else 0

/-- `MemWrite(a, 1, b)` (00_scope.md R12). -/
def memWrite (a : Nat) (b : Byte) (s : State) : State := { s with msg := Memory.store s.msg a b }

/-! ### Faults of the lane (60_exceptions.md) -/

/-- The ERRCODE of a fault (R210). -/
def LaneFault.code : LaneFault → BitVec 4
  | .illCmd => 1
  | .busy => 2
  | .len => 3
  | .seq => 4

/-- `raise Fault(E_x)`: the six assignments of fault entry, "instead of every other assignment of
the host write that raised it" (R216). Nothing is saved and control goes nowhere. -/
def raiseFault (f : LaneFault) (s : State) : State :=
  { s with
    err := true
    errCode := f.code
    busy := false
    auto := false
    dvalid := false
    upc := .fault }

/-- The reset event, the only way out of FAULT (R217): everything to its reset value, MSG untouched
(70_reset_and_hazards.md R240, 10_state.md R45). The parameters, the power-up, the events still to
come and what the host has already read are no state of the lane and stay. -/
def resetLane (s : State) : State :=
  { State.reset with
    msg := s.msg
    params := s.params
    powerUp := s.powerUp
    agenda := s.agenda
    replies := s.replies }

/-! ### Host writes and command acceptance (44_formatter_and_system.md R197) -/

/-- The tests every write of CMD, LEN or MSG passes first (R197, R198; 60_exceptions.md R215 steps 2
and 3): a faulted lane drops the write, a busy lane faults with E_BUSY. -/
def guardWrite (act : State → State) (s : State) : State :=
  if s.err then s else if s.busy then raiseFault .busy s else act s

/-- A command accepted: AUTO and UPC are set and BUSY is 1; "changes nothing else at acceptance"
(R197). -/
def accept (u : UPC) (auto : Bool) (s : State) : State :=
  { s with auto := auto, upc := u, busy := true }

/-- "LEN >= 2^61 or LEN > MSG_CAP" (60_exceptions.md R213). -/
def lenIllegal (s : State) : Bool :=
  decide (Config.lengthBound ≤ s.len.toNat) || decide (msgCap s < s.len.toNat)

/-- `MLEN <- LEN[60:0]` (10_state.md R37). -/
def latchLength (s : State) : State := { s with mlen := s.len.extractLsb' 0 61 }

/-- Acceptance of the two commands that start a block sequence: E_LEN, or latch and accept (R197;
41_chunker.md R131, 43_accumulator.md R176). -/
def acceptWithLength (u : UPC) (auto : Bool) (s : State) : State :=
  if lenIllegal s then raiseFault .len s else accept u auto (latchLength s)

/-- `LEN[31:0] <- v` (10_state.md R35). -/
def setLenLo (v : Word) (s : State) : State := { s with len := s.len.extractLsb' 32 32 ++ v }

/-- `LEN[63:32] <- v` (10_state.md R35). -/
def setLenHi (v : Word) (s : State) : State := { s with len := v ++ s.len.extractLsb' 0 32 }

/-- A read hands its value to the host and changes no state of the lane (20_memory.md R65; log 2). -/
def answer (r : Reply) (s : State) : State := { s with replies := r :: s.replies }

/-! ### The sequencer (10_state.md R40) -/

/-- "-> IDLE", which "also performs BUSY <- 0 and AUTO <- 0" (R40). -/
def toIdle (s : State) : State := { s with upc := .idle, busy := false, auto := false }

/-- The end of a micro-operation whose successor is `next` under AUTO and IDLE otherwise (R40). -/
def handOver (next : UPC) (s : State) : State :=
  if s.auto then { s with upc := next } else toIdle s

end Sys2Proof.Machine
end

