-- ==== Sys2Proof/Machine/Flags.lean ====
section
/-! DEFINITION. Every flag the spec computes: CHKDONE, the STATUS word and the three level outputs.
The arithmetic sets no flag (42_round.md R159); the stored flags are written where their rules say. -/

namespace Sys2Proof.Machine

/-- A flag as a bit of a given width. -/
def flagBit (width : Nat) (f : Bool) : BitVec width := BitVec.setWidth width (BitVec.ofBool f)

/-- CHKDONE, "not stored": 1 if BLK = NBLK (10_state.md R33). -/
def chkdone (s : State) : Bool := s.blk == s.nblk

/-- The value of a STATUS read:
`ERRCODE·2^8 + ERR·2^4 + CHKDONE·2^3 + LAST·2^2 + DVALID·2 + BUSY` (10_state.md R29). -/
def status (s : State) : Word :=
  (s.errCode.setWidth 32 <<< 8) ||| (flagBit 32 s.err <<< 4) ||| (flagBit 32 (chkdone s) <<< 3)
    ||| (flagBit 32 s.last <<< 2) ||| (flagBit 32 s.dvalid <<< 1) ||| flagBit 32 s.busy

/-- The level output `busy` (10_state.md R43). -/
def outBusy (s : State) : Bool := s.busy

/-- The level output `dvalid` (10_state.md R43). -/
def outDvalid (s : State) : Bool := s.dvalid

/-- The level output `err` (10_state.md R43). -/
def outErr (s : State) : Bool := s.err

end Sys2Proof.Machine
end

