-- ==== Sys2Proof/Machine/Tables.lean ====
section
/-! DEFINITION. The constant tables, read-only and not state (10_state.md R27; 40_constant_tables.md
R110 to R114). The values of K and the character codes of HEXCHAR are marked in the spec itself as
supplied from general knowledge (log 13). -/

namespace Sys2Proof.Machine

/-- IV, the four initial chaining constants (R110). -/
def iv : Quad := ⟨0x67452301, 0xefcdab89, 0x98badcfe, 0x10325476⟩

/-- K[0..15] (R111). -/
def kQuartile0 : Vector Word 16 := #v[
  0xd76aa478, 0xe8c7b756, 0x242070db, 0xc1bdceee,
  0xf57c0faf, 0x4787c62a, 0xa8304613, 0xfd469501,
  0x698098d8, 0x8b44f7af, 0xffff5bb1, 0x895cd7be,
  0x6b901122, 0xfd987193, 0xa679438e, 0x49b40821]

/-- K[16..31] (R111). -/
def kQuartile1 : Vector Word 16 := #v[
  0xf61e2562, 0xc040b340, 0x265e5a51, 0xe9b6c7aa,
  0xd62f105d, 0x02441453, 0xd8a1e681, 0xe7d3fbc8,
  0x21e1cde6, 0xc33707d6, 0xf4d50d87, 0x455a14ed,
  0xa9e3e905, 0xfcefa3f8, 0x676f02d9, 0x8d2a4c8a]

/-- K[32..47] (R111). -/
def kQuartile2 : Vector Word 16 := #v[
  0xfffa3942, 0x8771f681, 0x6d9d6122, 0xfde5380c,
  0xa4beea44, 0x4bdecfa9, 0xf6bb4b60, 0xbebfbc70,
  0x289b7ec6, 0xeaa127fa, 0xd4ef3085, 0x04881d05,
  0xd9d4d039, 0xe6db99e5, 0x1fa27cf8, 0xc4ac5665]

/-- K[48..63] (R111). -/
def kQuartile3 : Vector Word 16 := #v[
  0xf4292244, 0x432aff97, 0xab9423a7, 0xfc93a039,
  0x655b59c3, 0x8f0ccc92, 0xffeff47d, 0x85845dd1,
  0x6fa87e4f, 0xfe2ce6e0, 0xa3014314, 0x4e0811a1,
  0xf7537e82, 0xbd3af235, 0x2ad7d2bb, 0xeb86d391]

/-- K, the 64 additive constants indexed by the step (R111). -/
def kTable : Vector Word 64 := kQuartile0 ++ kQuartile1 ++ kQuartile2 ++ kQuartile3

/-- S, the 64 rotate amounts: entry i mod 4 of the group of quartile i div 16 (R112). -/
def sGroup (q : Nat) : Vector Nat 4 :=
  match q with
  | 0 => #v[7, 12, 17, 22]
  | 1 => #v[5, 9, 14, 20]
  | 2 => #v[4, 11, 16, 23]
  | _ => #v[6, 10, 15, 21]

/-- HEXCHAR[n]: 0x30 + n for n = 0..9 and 0x61 + (n − 10) for n = 10..15 (R114). -/
def hexChar (n : BitVec 4) : Byte :=
  if n.toNat < 10 then 0x30 + n.setWidth 8 else 0x61 + (n.setWidth 8 - 10)

end Sys2Proof.Machine
end

