-- ==== Sys2Proof/Machine/Operands.lean ====
section
/-! DEFINITION. What an operation works on. Commands have no operand fields (30_encoding.md R92);
the round pipeline derives a step's operands from the counter STEP (R93), and a host access names a
register number (10_state.md R21). -/

namespace Sys2Proof.Machine

/-! ### Step selection (30_encoding.md R93) -/

/-- q, the quartile: i[5:4] = i div 16. -/
def quartile (i : BitVec 6) : Nat := i.toNat / 16

/-- g, the message-word index: the four formulas of R93, i the full step index. -/
def wordIndex (i : BitVec 6) : Nat :=
  match quartile i with
  | 0 => i.toNat % 16
  | 1 => (5 * i.toNat + 1) % 16
  | 2 => (3 * i.toNat + 5) % 16
  | _ => (7 * i.toNat) % 16

/-- M[g], with g below 16. -/
def wordOperand (m : Vector Word 16) (i : BitVec 6) : Word := m[wordIndex i]?.getD 0

/-- s = S[i] (40_constant_tables.md R112). -/
def rotateAmount (i : BitVec 6) : Nat := (sGroup (quartile i))[i.toNat % 4]?.getD 0

/-- k = K[i] (40_constant_tables.md R111). -/
def additiveConstant (i : BitVec 6) : Word := kTable[i.toNat]?.getD 0

/-! ### The host's register space REG (10_state.md R21) -/

/-- Four bytes of a byte register as a word, the earlier byte less significant (20_memory.md R60). -/
def packedWord {n : Nat} (v : Vector Byte n) (k : Nat) : Word :=
  le32 (v[4 * k]?.getD 0) (v[4 * k + 1]?.getD 0) (v[4 * k + 2]?.getD 0) (v[4 * k + 3]?.getD 0)

/-- The "read value" of register number r: the table of R21, reserved numbers reading 0. -/
def regRead (s : State) (r : BitVec 6) : Word :=
  let n := r.toNat
  if n = 0 then 0
  else if n = 1 then status s
  else if n = 2 then s.len.extractLsb' 0 32
  else if n = 3 then s.len.extractLsb' 32 32
  else if n = 4 then s.nblk.extractLsb' 0 32
  else if n = 5 then (s.nblk.extractLsb' 32 24).setWidth 32
  else if n = 6 then s.blk.extractLsb' 0 32
  else if n = 7 then (s.blk.extractLsb' 32 24).setWidth 32
  else if n = 8 then s.w.a
  else if n = 9 then s.w.b
  else if n = 10 then s.w.c
  else if n = 11 then s.w.d
  else if n < 16 then packedWord s.digest (n - 12)
  else if n < 32 then s.m[n - 16]?.getD 0
  else if n < 40 then packedWord s.hex (n - 32)
  else 0

end Sys2Proof.Machine
end

