-- ==== Sys2Proof/Machine/Accumulator.lean ====
section
/-! DEFINITION. The digest accumulator (43_accumulator.md): INIT, CHAIN, SERIAL, COMPUTE and the
micro-operations U_INIT, U_CHAIN and U_SERIAL. -/

namespace Sys2Proof.Machine

/-- U_INIT (R171). -/
def microInit (s : State) : State := handOver .uRst { s with h := iv, dvalid := false }

/-- U_CHAIN (R173); LAST decides the successor under AUTO. -/
def microChain (s : State) : State :=
  handOver (if s.last then .uSerial else .uChunk) { s with h := addQuad s.h s.w }

/-- The 16 digest bytes of four words: "4 little-endian bytes, concatenated in A,B,C,D order"
(R175). -/
def serialize (h : Quad) : Vector Byte 16 :=
  #v[byteOf 0 h.a, byteOf 1 h.a, byteOf 2 h.a, byteOf 3 h.a,
     byteOf 0 h.b, byteOf 1 h.b, byteOf 2 h.b, byteOf 3 h.b,
     byteOf 0 h.c, byteOf 1 h.c, byteOf 2 h.c, byteOf 3 h.c,
     byteOf 0 h.d, byteOf 1 h.d, byteOf 2 h.d, byteOf 3 h.d]

/-- U_SERIAL (R175). -/
def microSerial (s : State) : State := toIdle { s with digest := serialize s.h, dvalid := true }

/-- INIT, the write of its word to CMD (R170; 44_formatter_and_system.md R197). -/
def execInit (s : State) : Host.Outcome State Fault Refusal :=
  .next (guardWrite (accept .uInit false) s)

/-- CHAIN, the write of its word to CMD (R172; 44_formatter_and_system.md R197). -/
def execChain (s : State) : Host.Outcome State Fault Refusal :=
  .next (guardWrite (accept .uChain false) s)

/-- SERIAL, the write of its word to CMD (R174; 44_formatter_and_system.md R197). -/
def execSerial (s : State) : Host.Outcome State Fault Refusal :=
  .next (guardWrite (accept .uSerial false) s)

/-- COMPUTE, the write of its word to CMD: E_LEN, or latch the length and start the whole digest
procedure under AUTO (R176; 44_formatter_and_system.md R197). -/
def execCompute (s : State) : Host.Outcome State Fault Refusal :=
  .next (guardWrite (acceptWithLength .uInit true) s)

end Sys2Proof.Machine
end

