-- ==== Sys2Proof/Machine/Chunker.lean ====
section
/-! DEFINITION. The block chunker (41_chunker.md): CHKRST, CHKNXT and the micro-operations U_RST and
U_CHUNK. -/

namespace Sys2Proof.Machine

/-- NBLKF(L) = (L + 8) div 64 + 1 (R130). -/
def nblkf (l : Nat) : Nat := (l + 8) / 64 + 1

/-- Byte n of the 64-bit length field 8·L, least significant first (R130, R134). -/
def lengthByte (l n : Nat) : Byte := (BitVec.ofNat 64 (8 * l)).extractLsb' (8 * n) 8

/-- The byte at position p of the padded stream of an L-byte message in `blocks` blocks: content,
terminator, zero padding, length field (R130, R134), with T = 64·blocks − 8. -/
def paddedByte (l blocks : Nat) (content : Nat → Byte) (p : Nat) : Byte :=
  if p < l then content p
  else if p = l then 0x80
  else if p < 64 * blocks - 8 then 0x00
  else lengthByte l (p - (64 * blocks - 8))

/-- Sixteen little-endian words from the bytes at positions `base` to `base + 63` of a stream (R130,
R134). -/
def blockAt (stream : Nat → Byte) (base : Nat) : Vector Word 16 :=
  Vector.ofFn fun k : Fin 16 =>
    le32 (stream (base + 4 * k.val)) (stream (base + 4 * k.val + 1))
      (stream (base + 4 * k.val + 2)) (stream (base + 4 * k.val + 3))

/-- U_RST (R132). -/
def microRst (s : State) : State :=
  handOver .uChunk
    { s with nblk := BitVec.ofNat 56 (nblkf s.mlen.toNat), blk := 0, last := false }

/-- U_CHUNK (R134): block b = BLK of the padded stream of MLEN bytes of MSG. That b < NBLK is
guaranteed in every reachable state (log 12). -/
def microChunk (s : State) : State :=
  handOver .uLoadw
    { s with
      m := blockAt (paddedByte s.mlen.toNat s.nblk.toNat (memRead s)) (64 * s.blk.toNat)
      last := decide (s.blk.toNat + 1 = s.nblk.toNat)
      blk := s.blk + 1 }

/-- CHKRST, the write of its word to CMD (R131; 44_formatter_and_system.md R197). -/
def execChkrst (s : State) : Host.Outcome State Fault Refusal :=
  .next (guardWrite (acceptWithLength .uRst false) s)

/-- CHKNXT, the write of its word to CMD: E_SEQ when BLK = NBLK (R133; 60_exceptions.md R214). -/
def execChknxt (s : State) : Host.Outcome State Fault Refusal :=
  .next (guardWrite
    (fun s => if chkdone s then raiseFault .seq s else accept .uChunk false s) s)

end Sys2Proof.Machine
end

