-- ==== Sys2Proof/Machine/Formatter.lean ====
section
/-! DEFINITION. The hex formatter and NOP (44_formatter_and_system.md): HEXFMT, NOP and the
micro-operations U_HEX and U_NOP. -/

namespace Sys2Proof.Machine

/-- The two characters of a byte, high nibble first (R191): character 0 or 1. -/
def hexDigit (b : Byte) (j : Nat) : Byte :=
  if j = 0 then hexChar (b.extractLsb' 4 4) else hexChar (b.extractLsb' 0 4)

/-- HEX[2k] and HEX[2k + 1] from DIGEST[k], for k = 0..15 (R191). -/
def hexString (digest : Vector Byte 16) : Vector Byte 32 :=
  Vector.ofFn fun j : Fin 32 => hexDigit (digest[j.val / 2]?.getD 0) (j.val % 2)

/-- U_HEX (R191). -/
def microHex (s : State) : State := toIdle { s with hex := hexString s.digest }

/-- U_NOP (R193). -/
def microNop (s : State) : State := toIdle s

/-- HEXFMT, the write of its word to CMD (R190; R197). -/
def execHexfmt (s : State) : Host.Outcome State Fault Refusal :=
  .next (guardWrite (accept .uHex false) s)

/-- NOP, the write of its word to CMD (R192; R197). -/
def execNop (s : State) : Host.Outcome State Fault Refusal :=
  .next (guardWrite (accept .uNop false) s)

end Sys2Proof.Machine
end

