-- ==== Sys2Proof/Machine/Round.lean ====
section
/-! DEFINITION. The compression round pipeline (42_round.md): LOADW, ROUND, the micro-operation
U_LOADW and the 64 step operations of U_STEP. -/

namespace Sys2Proof.Machine

/-- F0, quartile 0: `(B ∧ C) ∨ (¬B ∧ D)` (R154). -/
def f0 (b c d : Word) : Word := (b &&& c) ||| (~~~b &&& d)

/-- F1, quartile 1: `(D ∧ B) ∨ (¬D ∧ C)` (R155). -/
def f1 (b c d : Word) : Word := (d &&& b) ||| (~~~d &&& c)

/-- F2, quartile 2: `B ⊕ C ⊕ D` (R156). -/
def f2 (b c d : Word) : Word := (b ^^^ c) ^^^ d

/-- F3, quartile 3: `C ⊕ (B ∨ ¬D)` (R157). -/
def f3 (b c d : Word) : Word := c ^^^ (b ||| ~~~d)

/-- Fq, the function of step i, chosen by its quartile (R153). -/
def stepFunction (i : BitVec 6) : Word → Word → Word → Word :=
  match quartile i with
  | 0 => f0
  | 1 => f1
  | 2 => f2
  | _ => f3

/-- One step on the four words: temp = f + A + K[i] + M[g], then A ← D, B ← B + rotl32(temp, S[i]),
C ← B, D ← C, all from the old values (R153). -/
def mixStep (i : BitVec 6) (m : Vector Word 16) (w : Quad) : Quad :=
  let temp := stepFunction i w.b w.c w.d + w.a + additiveConstant i + wordOperand m i
  ⟨w.d, w.b + rotl32 temp (rotateAmount i), w.b, w.c⟩

/-- The step operation of row i (R153): W, then STEP ← (i + 1) mod 64, then the successor of R40:
after step 63 U_CHAIN under AUTO and IDLE otherwise, else U_STEP again. It is what U_STEP does when
STEP = i (log 11). -/
def stepOp (i : BitVec 6) (s : State) : Host.Outcome State Fault Refusal :=
  let t := { s with w := mixStep i s.m s.w, stepCtr := i + 1 }
  .next (if i = 63 then handOver .uChain t else { t with upc := .uStep })

/-- U_LOADW (R151). -/
def microLoadw (s : State) : State := handOver .uStep { s with w := s.h }

/-- LOADW, the write of its word to CMD (R150; 44_formatter_and_system.md R197). -/
def execLoadw (s : State) : Host.Outcome State Fault Refusal :=
  .next (guardWrite (accept .uLoadw false) s)

/-- ROUND, the write of its word to CMD (R152; 44_formatter_and_system.md R197). -/
def execRound (s : State) : Host.Outcome State Fault Refusal :=
  .next (guardWrite (accept .uStep false) s)

/-! The 64 rows USTEP.0 to USTEP.63 (40_constant_tables.md R113), one definition each. -/

def execUstep0 (s : State) : Host.Outcome State Fault Refusal := stepOp 0 s
def execUstep1 (s : State) : Host.Outcome State Fault Refusal := stepOp 1 s
def execUstep2 (s : State) : Host.Outcome State Fault Refusal := stepOp 2 s
def execUstep3 (s : State) : Host.Outcome State Fault Refusal := stepOp 3 s
def execUstep4 (s : State) : Host.Outcome State Fault Refusal := stepOp 4 s
def execUstep5 (s : State) : Host.Outcome State Fault Refusal := stepOp 5 s
def execUstep6 (s : State) : Host.Outcome State Fault Refusal := stepOp 6 s
def execUstep7 (s : State) : Host.Outcome State Fault Refusal := stepOp 7 s
def execUstep8 (s : State) : Host.Outcome State Fault Refusal := stepOp 8 s
def execUstep9 (s : State) : Host.Outcome State Fault Refusal := stepOp 9 s
def execUstep10 (s : State) : Host.Outcome State Fault Refusal := stepOp 10 s
def execUstep11 (s : State) : Host.Outcome State Fault Refusal := stepOp 11 s
def execUstep12 (s : State) : Host.Outcome State Fault Refusal := stepOp 12 s
def execUstep13 (s : State) : Host.Outcome State Fault Refusal := stepOp 13 s
def execUstep14 (s : State) : Host.Outcome State Fault Refusal := stepOp 14 s
def execUstep15 (s : State) : Host.Outcome State Fault Refusal := stepOp 15 s
def execUstep16 (s : State) : Host.Outcome State Fault Refusal := stepOp 16 s
def execUstep17 (s : State) : Host.Outcome State Fault Refusal := stepOp 17 s
def execUstep18 (s : State) : Host.Outcome State Fault Refusal := stepOp 18 s
def execUstep19 (s : State) : Host.Outcome State Fault Refusal := stepOp 19 s
def execUstep20 (s : State) : Host.Outcome State Fault Refusal := stepOp 20 s
def execUstep21 (s : State) : Host.Outcome State Fault Refusal := stepOp 21 s
def execUstep22 (s : State) : Host.Outcome State Fault Refusal := stepOp 22 s
def execUstep23 (s : State) : Host.Outcome State Fault Refusal := stepOp 23 s
def execUstep24 (s : State) : Host.Outcome State Fault Refusal := stepOp 24 s
def execUstep25 (s : State) : Host.Outcome State Fault Refusal := stepOp 25 s
def execUstep26 (s : State) : Host.Outcome State Fault Refusal := stepOp 26 s
def execUstep27 (s : State) : Host.Outcome State Fault Refusal := stepOp 27 s
def execUstep28 (s : State) : Host.Outcome State Fault Refusal := stepOp 28 s
def execUstep29 (s : State) : Host.Outcome State Fault Refusal := stepOp 29 s
def execUstep30 (s : State) : Host.Outcome State Fault Refusal := stepOp 30 s
def execUstep31 (s : State) : Host.Outcome State Fault Refusal := stepOp 31 s
def execUstep32 (s : State) : Host.Outcome State Fault Refusal := stepOp 32 s
def execUstep33 (s : State) : Host.Outcome State Fault Refusal := stepOp 33 s
def execUstep34 (s : State) : Host.Outcome State Fault Refusal := stepOp 34 s
def execUstep35 (s : State) : Host.Outcome State Fault Refusal := stepOp 35 s
def execUstep36 (s : State) : Host.Outcome State Fault Refusal := stepOp 36 s
def execUstep37 (s : State) : Host.Outcome State Fault Refusal := stepOp 37 s
def execUstep38 (s : State) : Host.Outcome State Fault Refusal := stepOp 38 s
def execUstep39 (s : State) : Host.Outcome State Fault Refusal := stepOp 39 s
def execUstep40 (s : State) : Host.Outcome State Fault Refusal := stepOp 40 s
def execUstep41 (s : State) : Host.Outcome State Fault Refusal := stepOp 41 s
def execUstep42 (s : State) : Host.Outcome State Fault Refusal := stepOp 42 s
def execUstep43 (s : State) : Host.Outcome State Fault Refusal := stepOp 43 s
def execUstep44 (s : State) : Host.Outcome State Fault Refusal := stepOp 44 s
def execUstep45 (s : State) : Host.Outcome State Fault Refusal := stepOp 45 s
def execUstep46 (s : State) : Host.Outcome State Fault Refusal := stepOp 46 s
def execUstep47 (s : State) : Host.Outcome State Fault Refusal := stepOp 47 s
def execUstep48 (s : State) : Host.Outcome State Fault Refusal := stepOp 48 s
def execUstep49 (s : State) : Host.Outcome State Fault Refusal := stepOp 49 s
def execUstep50 (s : State) : Host.Outcome State Fault Refusal := stepOp 50 s
def execUstep51 (s : State) : Host.Outcome State Fault Refusal := stepOp 51 s
def execUstep52 (s : State) : Host.Outcome State Fault Refusal := stepOp 52 s
def execUstep53 (s : State) : Host.Outcome State Fault Refusal := stepOp 53 s
def execUstep54 (s : State) : Host.Outcome State Fault Refusal := stepOp 54 s
def execUstep55 (s : State) : Host.Outcome State Fault Refusal := stepOp 55 s
def execUstep56 (s : State) : Host.Outcome State Fault Refusal := stepOp 56 s
def execUstep57 (s : State) : Host.Outcome State Fault Refusal := stepOp 57 s
def execUstep58 (s : State) : Host.Outcome State Fault Refusal := stepOp 58 s
def execUstep59 (s : State) : Host.Outcome State Fault Refusal := stepOp 59 s
def execUstep60 (s : State) : Host.Outcome State Fault Refusal := stepOp 60 s
def execUstep61 (s : State) : Host.Outcome State Fault Refusal := stepOp 61 s
def execUstep62 (s : State) : Host.Outcome State Fault Refusal := stepOp 62 s
def execUstep63 (s : State) : Host.Outcome State Fault Refusal := stepOp 63 s

end Sys2Proof.Machine
end

