-- ==== Sys2Proof/Machine/Dispatch.lean ====
section
/-! DEFINITION. One arm per row of spec/opcode_table.json. -/

namespace Sys2Proof.Machine

/-- The meaning of an instruction: for a command the host's write of its word to CMD
(44_formatter_and_system.md R197), for a USTEP row the step operation (42_round.md R153). -/
def exec (i : Instr) (s : State) : Host.Outcome State Fault Refusal :=
  match i with
  | .nop => Sys2Proof.Machine.execNop s
  | .init => Sys2Proof.Machine.execInit s
  | .chkrst => Sys2Proof.Machine.execChkrst s
  | .chknxt => Sys2Proof.Machine.execChknxt s
  | .loadw => Sys2Proof.Machine.execLoadw s
  | .round => Sys2Proof.Machine.execRound s
  | .chain => Sys2Proof.Machine.execChain s
  | .serial => Sys2Proof.Machine.execSerial s
  | .compute => Sys2Proof.Machine.execCompute s
  | .hexfmt => Sys2Proof.Machine.execHexfmt s
  | .ustep0 => Sys2Proof.Machine.execUstep0 s
  | .ustep1 => Sys2Proof.Machine.execUstep1 s
  | .ustep2 => Sys2Proof.Machine.execUstep2 s
  | .ustep3 => Sys2Proof.Machine.execUstep3 s
  | .ustep4 => Sys2Proof.Machine.execUstep4 s
  | .ustep5 => Sys2Proof.Machine.execUstep5 s
  | .ustep6 => Sys2Proof.Machine.execUstep6 s
  | .ustep7 => Sys2Proof.Machine.execUstep7 s
  | .ustep8 => Sys2Proof.Machine.execUstep8 s
  | .ustep9 => Sys2Proof.Machine.execUstep9 s
  | .ustep10 => Sys2Proof.Machine.execUstep10 s
  | .ustep11 => Sys2Proof.Machine.execUstep11 s
  | .ustep12 => Sys2Proof.Machine.execUstep12 s
  | .ustep13 => Sys2Proof.Machine.execUstep13 s
  | .ustep14 => Sys2Proof.Machine.execUstep14 s
  | .ustep15 => Sys2Proof.Machine.execUstep15 s
  | .ustep16 => Sys2Proof.Machine.execUstep16 s
  | .ustep17 => Sys2Proof.Machine.execUstep17 s
  | .ustep18 => Sys2Proof.Machine.execUstep18 s
  | .ustep19 => Sys2Proof.Machine.execUstep19 s
  | .ustep20 => Sys2Proof.Machine.execUstep20 s
  | .ustep21 => Sys2Proof.Machine.execUstep21 s
  | .ustep22 => Sys2Proof.Machine.execUstep22 s
  | .ustep23 => Sys2Proof.Machine.execUstep23 s
  | .ustep24 => Sys2Proof.Machine.execUstep24 s
  | .ustep25 => Sys2Proof.Machine.execUstep25 s
  | .ustep26 => Sys2Proof.Machine.execUstep26 s
  | .ustep27 => Sys2Proof.Machine.execUstep27 s
  | .ustep28 => Sys2Proof.Machine.execUstep28 s
  | .ustep29 => Sys2Proof.Machine.execUstep29 s
  | .ustep30 => Sys2Proof.Machine.execUstep30 s
  | .ustep31 => Sys2Proof.Machine.execUstep31 s
  | .ustep32 => Sys2Proof.Machine.execUstep32 s
  | .ustep33 => Sys2Proof.Machine.execUstep33 s
  | .ustep34 => Sys2Proof.Machine.execUstep34 s
  | .ustep35 => Sys2Proof.Machine.execUstep35 s
  | .ustep36 => Sys2Proof.Machine.execUstep36 s
  | .ustep37 => Sys2Proof.Machine.execUstep37 s
  | .ustep38 => Sys2Proof.Machine.execUstep38 s
  | .ustep39 => Sys2Proof.Machine.execUstep39 s
  | .ustep40 => Sys2Proof.Machine.execUstep40 s
  | .ustep41 => Sys2Proof.Machine.execUstep41 s
  | .ustep42 => Sys2Proof.Machine.execUstep42 s
  | .ustep43 => Sys2Proof.Machine.execUstep43 s
  | .ustep44 => Sys2Proof.Machine.execUstep44 s
  | .ustep45 => Sys2Proof.Machine.execUstep45 s
  | .ustep46 => Sys2Proof.Machine.execUstep46 s
  | .ustep47 => Sys2Proof.Machine.execUstep47 s
  | .ustep48 => Sys2Proof.Machine.execUstep48 s
  | .ustep49 => Sys2Proof.Machine.execUstep49 s
  | .ustep50 => Sys2Proof.Machine.execUstep50 s
  | .ustep51 => Sys2Proof.Machine.execUstep51 s
  | .ustep52 => Sys2Proof.Machine.execUstep52 s
  | .ustep53 => Sys2Proof.Machine.execUstep53 s
  | .ustep54 => Sys2Proof.Machine.execUstep54 s
  | .ustep55 => Sys2Proof.Machine.execUstep55 s
  | .ustep56 => Sys2Proof.Machine.execUstep56 s
  | .ustep57 => Sys2Proof.Machine.execUstep57 s
  | .ustep58 => Sys2Proof.Machine.execUstep58 s
  | .ustep59 => Sys2Proof.Machine.execUstep59 s
  | .ustep60 => Sys2Proof.Machine.execUstep60 s
  | .ustep61 => Sys2Proof.Machine.execUstep61 s
  | .ustep62 => Sys2Proof.Machine.execUstep62 s
  | .ustep63 => Sys2Proof.Machine.execUstep63 s

end Sys2Proof.Machine
end

