-- ==== Sys2Proof/Machine/Engine.lean ====
section
/-! DEFINITION. The engine event: the micro-operation named by UPC (10_state.md R40). -/

namespace Sys2Proof.Machine

/-- One engine event (R40). In U_STEP the operation is selected by STEP (30_encoding.md R93). "When
UPC ∈ {IDLE, FAULT} the engine has no event": nothing happens. -/
def engineEvent (s : State) : Host.Outcome State Fault Refusal :=
  match s.upc with
  | .idle => .next s
  | .fault => .next s
  | .uNop => .next (microNop s)
  | .uInit => .next (microInit s)
  | .uRst => .next (microRst s)
  | .uChunk => .next (microChunk s)
  | .uLoadw => .next (microLoadw s)
  | .uStep => exec (stepInstr s.stepCtr) s
  | .uChain => .next (microChain s)
  | .uSerial => .next (microSerial s)
  | .uHex => .next (microHex s)

end Sys2Proof.Machine
end

