-- ==== Sys2Proof/Machine/HostPort.lean ====
section
/-! DEFINITION. The five host events (44_formatter_and_system.md R196 to R199,
70_reset_and_hazards.md R240). -/

namespace Sys2Proof.Machine

/-- A write to CMD (R197): the decoded command's meaning, or E_ILLCMD for an illegal word after the
tests for ERR and BUSY (60_exceptions.md R215). -/
def cmdWrite (v : Word) (s : State) : Host.Outcome State Fault Refusal :=
  match decode (.cmdWord v) with
  | .ok i => exec i s
  | .error _ => .next (guardWrite (raiseFault .illCmd) s)

/-- `WR r, v` (R197): only CMD, LEN_LO and LEN_HI react; a write to a read-only or reserved register
number is "ignored in every state". -/
def regWrite (r : BitVec 6) (v : Word) (s : State) : Host.Outcome State Fault Refusal :=
  if r = 0 then cmdWrite v s
  else if r = 2 then .next (guardWrite (setLenLo v) s)
  else if r = 3 then .next (guardWrite (setLenHi v) s)
  else .next s

/-- `MW a, b` (R198): outside the memory it is "ignored in every state". -/
def msgWrite (a : BitVec 61) (b : Byte) (s : State) : State :=
  if a.toNat < msgCap s then guardWrite (memWrite a.toNat b) s else s

/-- One host event (30_encoding.md R96). -/
def hostEvent (e : HostEvent) (s : State) : Host.Outcome State Fault Refusal :=
  match e with
  | .rd r => .next (answer (.word (regRead s r)) s)
  | .wr r v => regWrite r v s
  | .mr a => .next (answer (.byte (msgRead s a)) s)
  | .mw a b => .next (msgWrite a b s)
  | .reset => .next (resetLane s)

/-- The next `RD 1` of a WAIT (30_encoding.md R97): while the value read has BUSY = 1 the WAIT goes
on after the engine has had its turn (log 7). -/
def waitEvent (s : State) : State :=
  let t := answer (.word (regRead s 1)) s
  if s.busy then { t with agenda := .engine :: .wait :: s.agenda } else t

end Sys2Proof.Machine
end

