-- ==== Sys2Proof/Machine/Step.lean ====
section
/-! DEFINITION. One step of a lane: the next event of its total order (20_memory.md R70). -/

namespace Sys2Proof.Machine

/-- One event with the agenda already moved past it. -/
def runEvent (e : Event) (s : State) : Host.Outcome State Fault Refusal :=
  match e with
  | .host he => hostEvent he s
  | .engine => engineEvent s
  | .wait => .next (waitEvent s)

/-- One step. When no further event is listed, the engine performs its micro-operations one after
the other (weak fairness, 70_reset_and_hazards.md R250), and an idle lane "simply waits for a
command" (60_exceptions.md R221). -/
def step (s : State) : Host.Outcome State Fault Refusal :=
  match s.agenda with
  | [] => engineEvent s
  | e :: rest => runEvent e { s with agenda := rest }

/-- The state with an instruction put where `step` takes its next one (log 9). A command word is the
next host event, a write to CMD. A row of at most 8 bits is a USTEP row: the engine is inside the
round (UPC = U_STEP, BUSY = 1) with that value in STEP, and the next event is the engine's. -/
def State.withFetchWord (s : State) (nbits w : Nat) : State :=
  if nbits ≤ 8 then
    { s with
      upc := .uStep
      busy := true
      stepCtr := BitVec.ofNat 6 w
      agenda := .engine :: s.agenda }
  else { s with agenda := .host (.wr 0 (BitVec.ofNat 32 w)) :: s.agenda }

end Sys2Proof.Machine
end

