-- ==== Sys2Proof/Machine/Chip.lean ====
section
/-! DEFINITION. A chip of NLANES independent lanes (60_exceptions.md R230; 00_scope.md R7). -/

namespace Sys2Proof.Machine

/-- "Each lane is a complete copy of everything in 10_state.md" (R230). -/
structure Chip where
  lanes : List State
deriving DecidableEq, Repr

/-- A chip of n lanes, each "leaves reset idle" (R230); each has a message memory of its own, so a
power-up content of its own (log 6). -/
def Chip.reset (n : Nat) : Chip :=
  { lanes := (List.range n).map fun k => { State.reset with powerUp := k } }

/-- One step of lane k; a number that is no lane's selects nothing. -/
def Chip.stepLane (k : Nat) (c : Chip) : Host.Outcome Chip Fault Refusal :=
  match c.lanes[k]? with
  | none => .next c
  | some s =>
    match step s with
    | .next t => .next { c with lanes := c.lanes.set k t }
    | .fault r => .fault r
    | .refused r => .refused r

/-- Steps of the lanes in a given order: "executed fully in parallel", so any order may occur. -/
def Chip.run : List Nat → Chip → Host.Outcome Chip Fault Refusal
  | [], c => .next c
  | k :: rest, c =>
    match Chip.stepLane k c with
    | .next c' => Chip.run rest c'
    | .fault r => .fault r
    | .refused r => .refused r

end Sys2Proof.Machine
end

