-- ==== Sys2Proof/Machine/Digest.lean ====
section
/-! DEFINITION. The digest as a function (41_chunker.md R130, 42_round.md R158, 43_accumulator.md
R177): what the machine is held to, written without its sequencer, registers or memory. -/

namespace Sys2Proof.Machine

/-- The four words after steps 0 to n − 1 (R158). -/
def mixSteps (m : Vector Word 16) (w : Quad) : Nat → Quad
  | 0 => w
  | n + 1 => mixStep (BitVec.ofNat 6 n) m (mixSteps m w n)

/-- COMPRESS(M, Win): the 64 steps, without the final addition of Win (R158). -/
def compress (m : Vector Word 16) (w : Quad) : Quad := mixSteps m w 64

/-- Block b of the padded stream of an L-byte message (R130). -/
def messageBlock (l : Nat) (message : Nat → Byte) (b : Nat) : Vector Word 16 :=
  blockAt (paddedByte l (nblkf l) message) (64 * b)

/-- H_b: H_0 = IV and H_(b+1) = H_b + COMPRESS(Block_b, H_b) (R177). -/
def chainState (l : Nat) (message : Nat → Byte) : Nat → Quad
  | 0 => iv
  | b + 1 =>
    addQuad (chainState l message b)
      (compress (messageBlock l message b) (chainState l message b))

/-- MD5(msg), "the 16 bytes of H_N serialized" (R177). -/
def md5 (l : Nat) (message : Nat → Byte) : Vector Byte 16 :=
  serialize (chainState l message (nblkf l))

end Sys2Proof.Machine
end

