-- ==== Sys2Proof/Machine/HostNotation.lean ====
section
/-! DEFINITION. The host's notation (30_encoding.md R97): each pseudo-instruction as the events it
expands to. `WAIT` is the agenda item `Event.wait` (log 7). -/

namespace Sys2Proof.Machine

/-- `CMD <mnemonic>`: `WR 0, <word of the mnemonic>`. A USTEP row is no command and has no word. -/
def cmdEvents (i : Instr) : List Event :=
  match encode i with
  | .cmdWord v => [.host (.wr 0 v)]
  | .stepCounter _ => []

/-- `RUN <mnemonic>`: `CMD <mnemonic>` then `WAIT`. -/
def runEvents (i : Instr) : List Event := cmdEvents i ++ [.wait]

/-- `SETLEN n`: `WR 2, n[31:0]` then `WR 3, n[63:32]`. -/
def setLenEvents (n : BitVec 64) : List Event :=
  [.host (.wr 2 (n.extractLsb' 0 32)), .host (.wr 3 (n.extractLsb' 32 32))]

/-- The message writes of a list of bytes from an address on. -/
def loadFrom : Nat → List Byte → List Event
  | _, [] => []
  | a, b :: rest => .host (.mw (BitVec.ofNat 61 a) b) :: loadFrom (a + 1) rest

/-- `LOADMSG b0 b1 ... b(n−1)`: `MW 0, b0`, ..., `MW n−1, b(n−1)`. -/
def loadMsgEvents (bytes : List Byte) : List Event := loadFrom 0 bytes

/-- `LOADSTR "text"`: `LOADMSG` of the character codes, one byte per character, in ASCII, which the
spec marks as general knowledge (log 19). -/
def loadStrEvents (text : List Char) : List Event :=
  loadMsgEvents (text.map fun c => BitVec.ofNat 8 c.toNat)

/-- A command followed by n places for the engine: one interleaving in which the command's n
micro-operations complete before the next host event. -/
def commandEvents (i : Instr) (n : Nat) : List Event := cmdEvents i ++ List.replicate n .engine

/-- The hand-issued sequence that COMPUTE is equivalent to, for a message of n blocks
(43_accumulator.md R179): INIT, CHKRST, n times CHKNXT, LOADW, ROUND, CHAIN, then SERIAL, each run to
completion. -/
def handSequence (n : Nat) : List Event :=
  commandEvents .init 1 ++ commandEvents .chkrst 1 ++
    (List.replicate n
      (commandEvents .chknxt 1 ++ commandEvents .loadw 1 ++ commandEvents .round 64 ++
        commandEvents .chain 1)).flatten ++
    commandEvents .serial 1

end Sys2Proof.Machine
end

