-- ==== Sys2Proof/Machine/Run.lean ====
section
/-! DEFINITION. Runs of many steps, for claims about whole commands. -/

namespace Sys2Proof.Machine

/-- k steps of the lane, stopping at a fault or a refusal of the model (there is none, log 15). -/
def runSteps : Nat → State → Host.Outcome State Fault Refusal
  | 0, s => .next s
  | k + 1, s =>
    match step s with
    | .next t => runSteps k t
    | .fault r => .fault r
    | .refused r => .refused r

end Sys2Proof.Machine
end

