-- ==== Sys2Proof/Safety.lean ====
section
/-! DEFINITION. What claims about runs are stated with: the spec's invariants (10_state.md R44), an
inductive strengthening of them, what the host must not do (70_reset_and_hazards.md R252), and how
many micro-operations a command still needs (R250). -/

namespace Sys2Proof.Machine

/-- UPC ∉ {IDLE, FAULT}: the engine has an event (10_state.md R40). -/
def UPC.running : UPC → Bool
  | .idle | .fault => false
  | .uNop | .uInit | .uRst | .uChunk | .uLoadw | .uStep | .uChain | .uSerial | .uHex => true

/-- The event the next step performs: the first on the agenda, or the engine's turn when none is
listed (log 1). -/
def nextEvent (s : State) : Event :=
  match s.agenda with
  | [] => .engine
  | e :: _ => e

/-- The lane is idle and unfaulted and nothing of an earlier command is left: where a host that
respects the hazard rules issues its next command (10_state.md R41, R44). -/
structure Ready (s : State) : Prop where
  upc : s.upc = .idle
  busy : s.busy = false
  err : s.err = false
  errCode : s.errCode = 0
  auto : s.auto = false
  stepCtr : s.stepCtr = 0

/-- The six invariants of 10_state.md R44, word for word. -/
structure SpecInvariants (s : State) : Prop where
  busyIff : s.busy = true ↔ s.upc ≠ .idle ∧ s.upc ≠ .fault
  errIff : s.err = true ↔ s.upc = .fault
  errCodeIff : s.errCode = 0 ↔ s.err = false
  autoBusy : s.auto = true → s.busy = true
  blocks : s.blk.toNat ≤ s.nblk.toNat ∧ s.nblk.toNat ≤ 2 ^ 55 + 1
  length : s.mlen.toNat ≤ min (2 ^ 61 - 1) (msgCap s)
  atRest : s.busy = false → s.err = false →
    s.stepCtr = 0 ∧ (s.nblk = 0 ∨ s.nblk.toNat = (s.mlen.toNat + 8) / 64 + 1)
  lastBlock : s.busy = false → s.err = false →
    (1 ≤ s.blk.toNat → (s.last = true ↔ s.blk = s.nblk)) ∧ (s.blk = 0 → s.last = false)

/-- An invariant that every step keeps by itself: R44's six and what they need in the middle of a
command, with the canonical form of the message memory. -/
structure Inv (s : State) : Prop where
  /-- R44.1 -/
  busyUpc : s.busy = s.upc.running
  /-- R44.2 -/
  errUpc : s.err = true ↔ s.upc = .fault
  /-- R44.2 -/
  errCodeZero : s.errCode = 0 ↔ s.err = false
  /-- R34: codes 5 to 15 are never produced -/
  errCodeRange : s.errCode.toNat ≤ 4
  /-- R44.3 -/
  autoBusy : s.auto = true → s.busy = true
  /-- R40: U_NOP and U_HEX are never reached with AUTO = 1 -/
  autoUpc : s.auto = true → s.upc ≠ .uNop ∧ s.upc ≠ .uHex
  /-- R44.4 -/
  blkLe : s.blk.toNat ≤ s.nblk.toNat
  /-- R44.4 -/
  nblkLe : s.nblk.toNat ≤ 2 ^ 55 + 1
  /-- R44.4 -/
  mlenLe : s.mlen.toNat ≤ msgCap s
  /-- R41: STEP is 0 whenever UPC ≠ U_STEP, but for a faulted lane -/
  stepZero : s.err = false → s.upc ≠ .uStep → s.stepCtr = 0
  /-- R44.5, and in the middle of a command: NBLK belongs to MLEN unless U_RST is still to come -/
  nblkValue : s.err = false → s.upc ≠ .uRst → (s.auto = true → s.upc ≠ .uInit) →
    s.nblk = 0 ∨ s.nblk.toNat = nblkf s.mlen.toNat
  /-- R44.6, in every state -/
  lastValue : s.last = decide (1 ≤ s.blk.toNat ∧ s.blk = s.nblk)
  /-- R134: "b < N is guaranteed" when U_CHUNK runs -/
  chunkReady : s.upc = .uChunk → s.blk.toNat < s.nblk.toNat
  /-- under AUTO, from U_CHUNK on, the sequence has been started -/
  autoBlocks : s.auto = true →
    s.upc = .uChunk ∨ s.upc = .uLoadw ∨ s.upc = .uStep ∨ s.upc = .uChain ∨ s.upc = .uSerial →
    1 ≤ s.nblk.toNat
  /-- under AUTO, the digest is serialized only after the final block (R40) -/
  autoSerial : s.auto = true → s.upc = .uSerial → s.last = true
  /-- log 5 -/
  memoryWf : Memory.wf s.msg = true
  /-- R61: MSG has the addresses 0 to MSG_CAP − 1 -/
  memoryBelow : Memory.below (msgCap s) s.msg = true

/-- R252's table of what "the host must not" do, as a test of one event in one state: true if the
event raises no fault. -/
def hostObeys (s : State) (e : HostEvent) : Bool :=
  match e with
  | .wr r v =>
    if r = 0 then
      s.err || !s.busy &&
        match decode (.cmdWord v) with
        | .ok .chkrst | .ok .compute => !lenIllegal s
        | .ok .chknxt => !chkdone s
        | .ok _ => true
        | .error _ => false
    else if r = 2 ∨ r = 3 then s.err || !s.busy
    else true
  | .mw a _ => s.err || !s.busy || decide (msgCap s ≤ a.toNat)
  | .rd _ | .mr _ | .reset => true

/-- A run is safe so far when the lane has not faulted (R245). -/
def Healthy (s : State) : Prop := s.err = false

/-- The micro-operations a running command still needs (70_reset_and_hazards.md R250). -/
def opsLeft (s : State) : Nat :=
  if s.auto then
    let blocksLeft := s.nblk.toNat - s.blk.toNat
    match s.upc with
    | .idle | .fault => 0
    | .uInit => 3 + 67 * nblkf s.mlen.toNat
    | .uRst => 2 + 67 * nblkf s.mlen.toNat
    | .uChunk => 1 + 67 * blocksLeft
    | .uLoadw => 67 + 67 * blocksLeft
    | .uStep => (64 - s.stepCtr.toNat) + 2 + 67 * blocksLeft
    | .uChain => 2 + 67 * blocksLeft
    | .uSerial | .uNop | .uHex => 1
  else
    match s.upc with
    | .idle | .fault => 0
    | .uStep => 64 - s.stepCtr.toNat
    | .uNop | .uInit | .uRst | .uChunk | .uLoadw | .uChain | .uSerial | .uHex => 1

end Sys2Proof.Machine
end

