-- ==== Sys2Proof/Certificates/Slice0/Obligations.lean ====
section
/-! DEFINITION. The statements for the provers, each about every state and operand it names; none is
about a program. -/

open Sys2Proof Sys2Proof.Machine

/-- Decode and encode agree, in both directions, for every instruction of the table: no second word
names a command, and no bit of a word or of STEP is dropped (R90, R91, R93, R98). -/
def Obligations.DecodeExactlyEncode : Prop :=
    ∀ (src : Source) (i : Instr), decode src = .ok i ↔ src = encode i

/-- R94 and R211: which words are illegal, and what writing one does. -/
def Obligations.IllegalCommandWords : Prop :=
    (∀ v : Word, (∃ i, decode (.cmdWord v) = .ok i) ↔
      v.extractLsb' 8 24 = 0 ∧ (v.extractLsb' 0 8).toNat ≤ 0x09) ∧
    (∀ v : Word, (∃ i, decode (.cmdWord v) = .ok i) ↔ v.toNat < 10) ∧
    ∀ (v : Word) (s : State) (rest : List Event), s.agenda = .host (.wr 0 v) :: rest →
      s.busy = false → s.err = false →
      ¬ (v.extractLsb' 8 24 = 0 ∧ (v.extractLsb' 0 8).toNat ≤ 0x09) →
      step s = .next { s with
        agenda := rest, err := true, errCode := 1, busy := false, auto := false,
        dvalid := false, upc := .fault }

/-- Words written out from R91 and R94, step counter values from R98. -/
def Obligations.SampleBitsDecode : Prop :=
    decode (.cmdWord 0x00000000) = .ok .nop ∧ decode (.cmdWord 0x00000002) = .ok .chkrst ∧
    decode (.cmdWord 0x00000005) = .ok .round ∧ decode (.cmdWord 0x00000008) = .ok .compute ∧
    decode (.cmdWord 0x00000009) = .ok .hexfmt ∧
    decode (.stepCounter 0) = .ok .ustep0 ∧ decode (.stepCounter 16) = .ok .ustep16 ∧
    decode (.stepCounter 47) = .ok .ustep47 ∧ decode (.stepCounter 63) = .ok .ustep63 ∧
    decode (.cmdWord 0x0000000a) = .error .opcodeUndefined ∧
    decode (.cmdWord 0x00000101) = .error .zeroFieldNotZero

/-- R93's derived fields q, g and s, against R112's written-out table and R113's permutations. -/
def Obligations.StepSelection : Prop :=
    (∀ i : BitVec 6, quartile i = i.toNat / 16 ∧
      (i.toNat < 16 → wordIndex i = i.toNat) ∧
      (16 ≤ i.toNat → i.toNat < 32 → wordIndex i = (5 * i.toNat + 1) % 16) ∧
      (32 ≤ i.toNat → i.toNat < 48 → wordIndex i = (3 * i.toNat + 5) % 16) ∧
      (48 ≤ i.toNat → wordIndex i = (7 * i.toNat) % 16)) ∧
    (∀ i : BitVec 6, some (rotateAmount i) =
      ([7, 12, 17, 22, 7, 12, 17, 22, 7, 12, 17, 22, 7, 12, 17, 22] ++
        [5, 9, 14, 20, 5, 9, 14, 20, 5, 9, 14, 20, 5, 9, 14, 20] ++
        [4, 11, 16, 23, 4, 11, 16, 23, 4, 11, 16, 23, 4, 11, 16, 23] ++
        [6, 10, 15, 21, 6, 10, 15, 21, 6, 10, 15, 21, 6, 10, 15, 21])[i.toNat]?) ∧
    ∀ q g : Nat, q < 4 → g < 16 → ∃ j : Nat, j < 16 ∧
      wordIndex (BitVec.ofNat 6 (16 * q + j)) = g ∧
      ∀ j' : Nat, j' < 16 → wordIndex (BitVec.ofNat 6 (16 * q + j')) = g → j' = j

/-- R11's definition of rotl32, for every amount for which it is defined. -/
def Obligations.RotateIsTheStatedFormula : Prop :=
    ∀ (x : Word) (s : Nat), 1 ≤ s → s ≤ 31 →
      (rotl32 x s).toNat = (x.toNat * 2 ^ s) % 2 ^ 32 + x.toNat / 2 ^ (32 - s)

/-- The per-bit readings of R154 to R157 and the truth tables of R160. -/
def Obligations.StepFunctionsBitByBit : Prop :=
    ∀ (b c d : Word) (n : Nat), n < 32 →
      (f0 b c d).getLsbD n = (if b.getLsbD n then c.getLsbD n else d.getLsbD n) ∧
      (f1 b c d).getLsbD n = (if d.getLsbD n then b.getLsbD n else c.getLsbD n) ∧
      (f2 b c d).getLsbD n = ((b.getLsbD n).xor ((c.getLsbD n).xor (d.getLsbD n))) ∧
      (f3 b c d).getLsbD n = ((c.getLsbD n).xor (b.getLsbD n || !d.getLsbD n))

/-- R10: how bytes become words and words become bytes. -/
def Obligations.WordsAreLittleEndian : Prop :=
    (∀ b0 b1 b2 b3 : Byte,
      (le32 b0 b1 b2 b3).toNat =
        b0.toNat + 2 ^ 8 * b1.toNat + 2 ^ 16 * b2.toNat + 2 ^ 24 * b3.toNat ∧
      byteOf 0 (le32 b0 b1 b2 b3) = b0 ∧ byteOf 1 (le32 b0 b1 b2 b3) = b1 ∧
      byteOf 2 (le32 b0 b1 b2 b3) = b2 ∧ byteOf 3 (le32 b0 b1 b2 b3) = b3) ∧
    ∀ w : Word, le32 (byteOf 0 w) (byteOf 1 w) (byteOf 2 w) (byteOf 3 w) = w

/-- R153, with the successor of R40; that a row tests neither UPC nor STEP is the model's reading (log 11,
DEDUCED). `encode x = .stepCounter i` says that x is the constructor of
row USTEP.i, so the statement covers `ustep0` to `ustep63`. -/
def Obligations.StepRowEffect : Prop :=
    ∀ (x : Instr) (i : BitVec 6) (s : State), encode x = .stepCounter i →
      let n := i.toNat
      let f := if n < 16 then f0 s.w.b s.w.c s.w.d else if n < 32 then f1 s.w.b s.w.c s.w.d
        else if n < 48 then f2 s.w.b s.w.c s.w.d else f3 s.w.b s.w.c s.w.d
      let g := if n < 16 then n else if n < 32 then (5 * n + 1) % 16
        else if n < 48 then (3 * n + 5) % 16 else (7 * n) % 16
      let temp := f + s.w.a + additiveConstant i + s.m[g]?.getD 0
      let t := { s with
        w := ⟨s.w.d, s.w.b + rotl32 temp (rotateAmount i), s.w.b, s.w.c⟩
        stepCtr := BitVec.ofNat 6 ((n + 1) % 64) }
      exec x s = .next (
        if n = 63 then
          if s.auto then { t with upc := .uChain }
          else { t with upc := .idle, busy := false, auto := false }
        else { t with upc := .uStep })

/-- The frame of the 64 step rows, in every state (log 11); they store nothing to memory. -/
def Obligations.StepRowsFrame : Prop :=
    ∀ (x : Instr) (i : BitVec 6) (s t : State), encode x = .stepCounter i → exec x s = .next t →
      t.h = s.h ∧ t.m = s.m ∧ t.digest = s.digest ∧ t.hex = s.hex ∧ t.len = s.len ∧
      t.mlen = s.mlen ∧ t.nblk = s.nblk ∧ t.blk = s.blk ∧ t.dvalid = s.dvalid ∧
      t.last = s.last ∧ t.err = s.err ∧ t.errCode = s.errCode ∧ t.params = s.params ∧
      t.powerUp = s.powerUp ∧ t.agenda = s.agenda ∧ t.replies = s.replies ∧
      (∀ a : BitVec 61, msgRead t a = msgRead s a) ∧
      (i ≠ 63 → t.busy = s.busy ∧ t.auto = s.auto)

/-- R152: acceptance, and the net effect of the 64 micro-operations (COMPRESS is R158). -/
def Obligations.RoundCommand : Prop :=
    (∀ s : State, s.busy = false → s.err = false →
      exec .round s = .next { s with auto := false, upc := .uStep, busy := true }) ∧
    ∀ (s : State) (rest : List Event), Ready s →
      runSteps 65 { s with agenda := .host (.wr 0 0x00000005) :: List.replicate 64 .engine ++ rest } =
        .next { s with w := compress s.m s.w, agenda := rest }

/-- R192 and R193. -/
def Obligations.NopCommand : Prop :=
    (∀ s : State, s.busy = false → s.err = false →
      exec .nop s = .next { s with auto := false, upc := .uNop, busy := true }) ∧
    (∀ s : State, s.upc = .uNop →
      engineEvent s = .next { s with upc := .idle, busy := false, auto := false }) ∧
    ∀ (s : State) (rest : List Event), Ready s →
      runSteps 2 { s with agenda := .host (.wr 0 0x00000000) :: .engine :: rest } =
        .next { s with agenda := rest }

/-- R170 and R171. -/
def Obligations.InitCommand : Prop :=
    (∀ s : State, s.busy = false → s.err = false →
      exec .init s = .next { s with auto := false, upc := .uInit, busy := true }) ∧
    (∀ s : State, s.upc = .uInit →
      engineEvent s = .next (
        let t := { s with h := ⟨0x67452301, 0xefcdab89, 0x98badcfe, 0x10325476⟩, dvalid := false }
        if s.auto then { t with upc := .uRst } else { t with upc := .idle, busy := false, auto := false })) ∧
    ∀ (s : State) (rest : List Event), Ready s →
      runSteps 2 { s with agenda := .host (.wr 0 0x00000001) :: .engine :: rest } =
        .next { s with h := ⟨0x67452301, 0xefcdab89, 0x98badcfe, 0x10325476⟩, dvalid := false, agenda := rest }

/-- R150 and R151. -/
def Obligations.LoadwCommand : Prop :=
    (∀ s : State, s.busy = false → s.err = false →
      exec .loadw s = .next { s with auto := false, upc := .uLoadw, busy := true }) ∧
    (∀ s : State, s.upc = .uLoadw →
      engineEvent s = .next (
        let t := { s with w := s.h }
        if s.auto then { t with upc := .uStep } else { t with upc := .idle, busy := false, auto := false })) ∧
    ∀ (s : State) (rest : List Event), Ready s →
      runSteps 2 { s with agenda := .host (.wr 0 0x00000004) :: .engine :: rest } =
        .next { s with w := s.h, agenda := rest }

/-- R172 and R173. -/
def Obligations.ChainCommand : Prop :=
    (∀ s : State, s.busy = false → s.err = false →
      exec .chain s = .next { s with auto := false, upc := .uChain, busy := true }) ∧
    (∀ s : State, s.upc = .uChain →
      engineEvent s = .next (
        let t := { s with h := ⟨s.h.a + s.w.a, s.h.b + s.w.b, s.h.c + s.w.c, s.h.d + s.w.d⟩ }
        if s.auto then { t with upc := if s.last then .uSerial else .uChunk }
        else { t with upc := .idle, busy := false, auto := false })) ∧
    ∀ (s : State) (rest : List Event), Ready s →
      runSteps 2 { s with agenda := .host (.wr 0 0x00000006) :: .engine :: rest } =
        .next { s with h := ⟨s.h.a + s.w.a, s.h.b + s.w.b, s.h.c + s.w.c, s.h.d + s.w.d⟩, agenda := rest }

/-- R174 and R175. -/
def Obligations.SerialCommand : Prop :=
    (∀ s : State, s.busy = false → s.err = false →
      exec .serial s = .next { s with auto := false, upc := .uSerial, busy := true }) ∧
    (∀ s : State, s.upc = .uSerial →
      engineEvent s = .next { s with digest := serialize s.h, dvalid := true, upc := .idle, busy := false, auto := false }) ∧
    (∀ (s : State) (rest : List Event), Ready s →
      runSteps 2 { s with agenda := .host (.wr 0 0x00000007) :: .engine :: rest } =
        .next { s with digest := serialize s.h, dvalid := true, agenda := rest }) ∧
    ∀ (h : Quad) (k : Nat), k < 4 →
      (serialize h)[k]? = some (h.a.extractLsb' (8 * k) 8) ∧
      (serialize h)[4 + k]? = some (h.b.extractLsb' (8 * k) 8) ∧
      (serialize h)[8 + k]? = some (h.c.extractLsb' (8 * k) 8) ∧
      (serialize h)[12 + k]? = some (h.d.extractLsb' (8 * k) 8)

/-- R190 and R191. -/
def Obligations.HexfmtCommand : Prop :=
    (∀ s : State, s.busy = false → s.err = false →
      exec .hexfmt s = .next { s with auto := false, upc := .uHex, busy := true }) ∧
    (∀ s : State, s.upc = .uHex →
      engineEvent s = .next { s with hex := hexString s.digest, upc := .idle, busy := false, auto := false }) ∧
    (∀ (s : State) (rest : List Event), Ready s →
      runSteps 2 { s with agenda := .host (.wr 0 0x00000009) :: .engine :: rest } =
        .next { s with hex := hexString s.digest, agenda := rest }) ∧
    ∀ (d : Vector Byte 16) (k : Fin 16),
      (hexString d)[2 * k.val]? = some (hexChar ((d[k]).extractLsb' 4 4)) ∧
      (hexString d)[2 * k.val + 1]? = some (hexChar ((d[k]).extractLsb' 0 4))

/-- R131 and R132. -/
def Obligations.ChkrstCommand : Prop :=
    (∀ s : State, s.busy = false → s.err = false → s.len.toNat < 2 ^ 61 → s.len.toNat ≤ msgCap s →
      exec .chkrst s = .next { s with
        mlen := s.len.extractLsb' 0 61, auto := false, upc := .uRst, busy := true }) ∧
    (∀ s : State, s.busy = false → s.err = false → 2 ^ 61 ≤ s.len.toNat ∨ msgCap s < s.len.toNat →
      exec .chkrst s = .next { s with
          err := true, errCode := 3, busy := false, auto := false, dvalid := false,
          upc := .fault }) ∧
    (∀ s : State, s.upc = .uRst →
      engineEvent s = .next (
        let t := { s with
          nblk := BitVec.ofNat 56 ((s.mlen.toNat + 8) / 64 + 1), blk := 0, last := false }
        if s.auto then { t with upc := .uChunk } else { t with upc := .idle, busy := false, auto := false })) ∧
    ∀ (s : State) (rest : List Event), Ready s → s.len.toNat < 2 ^ 61 → s.len.toNat ≤ msgCap s →
      ∃ t : State,
        runSteps 2 { s with agenda := .host (.wr 0 0x00000002) :: .engine :: rest } = .next t ∧
        t = { s with
          mlen := t.mlen, nblk := t.nblk, blk := 0, last := false, agenda := rest } ∧
        t.mlen.toNat = s.len.toNat ∧ t.nblk.toNat = (s.len.toNat + 8) / 64 + 1 ∧
        chkdone t = false

/-- R133 and R134. That BLK < NBLK where U_CHUNK runs is kept by every step (StepKeepsInvariant). -/
def Obligations.ChknxtCommand : Prop :=
    let bytes : State → Nat → Byte := fun s j =>
      let p := 64 * s.blk.toNat + j
      let limit := 64 * s.nblk.toNat - 8
      if p < s.mlen.toNat then memRead s p
      else if p = s.mlen.toNat then 0x80
      else if p < limit then 0x00
      else (BitVec.ofNat 64 (8 * s.mlen.toNat)).extractLsb' (8 * (p - limit)) 8
    let block : State → State := fun s =>
      { s with
        m := Vector.ofFn fun k : Fin 16 => le32 (bytes s (4 * k.val)) (bytes s (4 * k.val + 1))
          (bytes s (4 * k.val + 2)) (bytes s (4 * k.val + 3))
        last := decide (s.blk.toNat + 1 = s.nblk.toNat)
        blk := s.blk + 1 }
    (∀ s : State, s.busy = false → s.err = false → s.blk ≠ s.nblk →
      exec .chknxt s = .next { s with auto := false, upc := .uChunk, busy := true }) ∧
    (∀ s : State, s.busy = false → s.err = false → s.blk = s.nblk →
      exec .chknxt s = .next { s with
          err := true, errCode := 4, busy := false, auto := false, dvalid := false,
          upc := .fault }) ∧
    (∀ s : State, s.upc = .uChunk → s.blk.toNat < s.nblk.toNat →
      engineEvent s = .next (
        if s.auto then { block s with upc := .uLoadw }
        else { block s with upc := .idle, busy := false, auto := false })) ∧
    ∀ (s : State) (rest : List Event), Ready s → s.blk.toNat < s.nblk.toNat →
      runSteps 2 { s with agenda := .host (.wr 0 0x00000003) :: .engine :: rest } =
        .next { block s with agenda := rest }

/-- The acceptance part of R176 and the two bounds of R213; what the engine then does is
ComputeGivesTheDigest. -/
def Obligations.ComputeAcceptance : Prop :=
    (∀ s : State, s.busy = false → s.err = false → s.len.toNat < 2 ^ 61 → s.len.toNat ≤ msgCap s →
      exec .compute s = .next { s with
        mlen := s.len.extractLsb' 0 61, auto := true, upc := .uInit, busy := true }) ∧
    (∀ s : State, s.busy = false → s.err = false → 2 ^ 61 ≤ s.len.toNat ∨ msgCap s < s.len.toNat →
      exec .compute s = .next { s with
          err := true, errCode := 3, busy := false, auto := false, dvalid := false,
          upc := .fault }) ∧
    ∀ s : State, s.busy = false → s.err = false → msgCap s = 2 ^ 61 - 1 →
      (s.len = 0x1fffffffffffffff → ∃ t, exec .compute s = .next t ∧ t.busy = true ∧ t.err = false) ∧
      (s.len = 0x2000000000000000 → ∃ t, exec .compute s = .next t ∧ t.err = true ∧ t.errCode = 3)

/-- R177 and R178: the whole digest procedure, for every message and every number of blocks. -/
def Obligations.ComputeGivesTheDigest : Prop :=
    ∀ (s : State) (rest : List Event), Ready s → s.len.toNat < 2 ^ 61 → s.len.toNat ≤ msgCap s →
      let l := s.len.toNat
      let blocks := (l + 8) / 64 + 1
      let message := memRead s
      let t := { s with
        digest := md5 l message
        h := chainState l message blocks
        w := compress (messageBlock l message (blocks - 1)) (chainState l message (blocks - 1))
        m := messageBlock l message (blocks - 1)
        mlen := BitVec.ofNat 61 l
        nblk := BitVec.ofNat 56 blocks
        blk := BitVec.ofNat 56 blocks
        dvalid := true
        last := true
        agenda := rest }
      runSteps (1 + (3 + 67 * blocks)) { s with
        agenda := .host (.wr 0 0x00000008) :: List.replicate (3 + 67 * blocks) .engine ++ rest } = .next t ∧ status t = 0x0000000e

/-- R179. The loop's exit test is the last clause: after k passes LAST = 1 exactly when k = N. -/
def Obligations.ComputeEqualsHandSequence : Prop :=
    ∀ (s : State) (rest : List Event), Ready s → s.len.toNat < 2 ^ 61 → s.len.toNat ≤ msgCap s →
      let blocks := (s.len.toNat + 8) / 64 + 1
      runSteps (1 + (3 + 67 * blocks)) { s with
        agenda := .host (.wr 0 0x00000008) :: List.replicate (3 + 67 * blocks) .engine ++ rest } =
        runSteps (handSequence blocks).length { s with agenda := handSequence blocks ++ rest } ∧
      ∀ k : Nat, 1 ≤ k → k ≤ blocks →
        ∃ t, runSteps (4 + 71 * k) { s with agenda := handSequence blocks ++ rest } = .next t ∧
          t.busy = false ∧ (t.last = true ↔ k = blocks)

/-- R197: an accepted command "changes nothing else at acceptance". The commands store nothing to
memory; their work is done by the engine events that follow. -/
def Obligations.CommandsFrame : Prop :=
    ∀ (i : Instr) (v : Word) (s t : State), encode i = .cmdWord v → exec i s = .next t →
      t.h = s.h ∧ t.w = s.w ∧ t.m = s.m ∧ t.digest = s.digest ∧ t.hex = s.hex ∧ t.len = s.len ∧
      t.nblk = s.nblk ∧ t.blk = s.blk ∧ t.stepCtr = s.stepCtr ∧ t.last = s.last ∧
      t.params = s.params ∧ t.powerUp = s.powerUp ∧ t.agenda = s.agenda ∧
      t.replies = s.replies ∧ (∀ a : BitVec 61, msgRead t a = msgRead s a) ∧
      (i ≠ .chkrst → i ≠ .compute → t.mlen = s.mlen) ∧
      (t.err = s.err → t.dvalid = s.dvalid ∧ t.errCode = s.errCode) ∧ (s.err = true → t = s)

/-- R40's table. -/
def Obligations.SequencerSuccessors : Prop :=
    ∀ s : State, ∃ t : State, engineEvent s = .next t ∧
      (s.upc = .idle ∨ s.upc = .fault → t = s) ∧
      (s.upc ≠ .idle → s.upc ≠ .fault →
        (s.upc = .uStep ∧ s.stepCtr ≠ 63 →
          t.upc = .uStep ∧ t.busy = s.busy ∧ t.auto = s.auto) ∧
        ((s.auto = false ∨ s.upc = .uNop ∨ s.upc = .uHex ∨ s.upc = .uSerial) →
          ¬ (s.upc = .uStep ∧ s.stepCtr ≠ 63) →
          t.upc = .idle ∧ t.busy = false ∧ t.auto = false) ∧
        (s.auto = true →
          (s.upc = .uInit → t.upc = .uRst ∧ t.busy = s.busy ∧ t.auto = true) ∧
          (s.upc = .uRst → t.upc = .uChunk ∧ t.busy = s.busy ∧ t.auto = true) ∧
          (s.upc = .uChunk → t.upc = .uLoadw ∧ t.busy = s.busy ∧ t.auto = true) ∧
          (s.upc = .uLoadw → t.upc = .uStep ∧ t.busy = s.busy ∧ t.auto = true) ∧
          (s.upc = .uStep → s.stepCtr = 63 → t.upc = .uChain ∧ t.busy = s.busy ∧ t.auto = true) ∧
          (s.upc = .uChain → t.upc = (if s.last then .uSerial else .uChunk) ∧
            t.busy = s.busy ∧ t.auto = true)))

/-- R210: "never by an engine micro-operation"; R65: "The engine never writes MSG"; R35: "Nothing
in the engine writes LEN". -/
def Obligations.EngineNeverFaults : Prop :=
    ∀ s : State, ∃ t : State, engineEvent s = .next t ∧
      t.err = s.err ∧ t.errCode = s.errCode ∧ (t.upc = .fault ↔ s.upc = .fault) ∧
      t.msg = s.msg ∧ t.len = s.len ∧ t.mlen = s.mlen ∧ t.params = s.params ∧
      t.powerUp = s.powerUp ∧ t.agenda = s.agenda ∧ t.replies = s.replies ∧
      ∀ a : BitVec 61, msgRead t a = msgRead s a

/-- The core cannot hang (R250), a faulted lane still answers (R217); that lane faults are next states
is the model's reading (log 15). -/
def Obligations.EveryStepAnswers : Prop :=
    ∀ s : State, ∃ t : State, step s = .next t

/-- R250: every command "completes after a finite number of micro-operations". That the engine moves
when no event is listed is the model's form of weak fairness (log 1). -/
def Obligations.EngineFinishes : Prop :=
    ∀ s : State, Inv s → s.agenda = [] →
      (∃ t : State, runSteps (opsLeft s) s = .next t ∧ t.busy = false) ∧
      ∀ k : Nat, k < opsLeft s → ∃ t : State, runSteps k s = .next t ∧ t.busy = true

/-- R250's table, with EngineFinishes, which says that opsLeft is the exact number. -/
def Obligations.MicroOperationCounts : Prop :=
    ∀ s : State, Ready s →
      (∀ i : Instr, i = .nop ∨ i = .init ∨ i = .loadw ∨ i = .chain ∨ i = .serial ∨ i = .hexfmt →
        ∃ t, exec i s = .next t ∧ t.busy = true ∧ opsLeft t = 1) ∧
      (∃ t, exec .round s = .next t ∧ t.busy = true ∧ opsLeft t = 64) ∧
      (s.blk ≠ s.nblk → ∃ t, exec .chknxt s = .next t ∧ t.busy = true ∧ opsLeft t = 1) ∧
      (s.len.toNat < 2 ^ 61 → s.len.toNat ≤ msgCap s →
        (∃ t, exec .chkrst s = .next t ∧ t.busy = true ∧ opsLeft t = 1) ∧
        ∃ t, exec .compute s = .next t ∧ t.busy = true ∧
          opsLeft t = 3 + 67 * ((s.len.toNat + 8) / 64 + 1))

/-- "Written only by" of R22 to R26, over every step of the machine. -/
def Obligations.DatapathWriters : Prop :=
    ∀ s t : State, step s = .next t →
      (t.h ≠ s.h → nextEvent s = .host .reset ∨
        nextEvent s = .engine ∧ (s.upc = .uInit ∨ s.upc = .uChain)) ∧
      (t.w ≠ s.w → nextEvent s = .host .reset ∨
        nextEvent s = .engine ∧ (s.upc = .uLoadw ∨ s.upc = .uStep)) ∧
      (t.m ≠ s.m → nextEvent s = .host .reset ∨ nextEvent s = .engine ∧ s.upc = .uChunk) ∧
      (t.digest ≠ s.digest → nextEvent s = .host .reset ∨
        nextEvent s = .engine ∧ s.upc = .uSerial) ∧
      (t.hex ≠ s.hex → nextEvent s = .host .reset ∨ nextEvent s = .engine ∧ s.upc = .uHex)

/-- The writers that R32, R35, R36, R37 and R41 name, over every step of the machine. -/
def Obligations.ControlStateWriters : Prop :=
    ∀ s t : State, step s = .next t →
      (t.len ≠ s.len → nextEvent s = .host .reset ∨
        ∃ v : Word, nextEvent s = .host (.wr 2 v) ∨ nextEvent s = .host (.wr 3 v)) ∧
      (t.mlen ≠ s.mlen → nextEvent s = .host .reset ∨
        nextEvent s = .host (.wr 0 0x00000002) ∨ nextEvent s = .host (.wr 0 0x00000008)) ∧
      (t.nblk ≠ s.nblk → nextEvent s = .host .reset ∨ nextEvent s = .engine ∧ s.upc = .uRst) ∧
      (t.blk ≠ s.blk ∨ t.last ≠ s.last → nextEvent s = .host .reset ∨
        nextEvent s = .engine ∧ (s.upc = .uRst ∨ s.upc = .uChunk)) ∧
      (t.stepCtr ≠ s.stepCtr → nextEvent s = .host .reset ∨
        nextEvent s = .engine ∧ s.upc = .uStep) ∧
      t.params = s.params ∧ t.powerUp = s.powerUp

/-- R31: "set to 1 by U_SERIAL, cleared to 0 by U_INIT, by fault entry and by reset, and changed by
nothing else". -/
def Obligations.DvalidChanges : Prop :=
    ∀ s t : State, step s = .next t →
      (nextEvent s = .engine → s.upc = .uSerial → t.dvalid = true) ∧
      (nextEvent s = .engine → s.upc = .uInit → t.dvalid = false) ∧
      (nextEvent s = .host .reset → t.dvalid = false) ∧
      (s.err = false → t.err = true → t.dvalid = false) ∧
      (¬ (nextEvent s = .engine ∧ (s.upc = .uSerial ∨ s.upc = .uInit)) →
        nextEvent s ≠ .host .reset → ¬ (s.err = false ∧ t.err = true) → t.dvalid = s.dvalid)

/-- R66: a written byte "holds the written value until the host overwrites it", an unwritten one is
"stable"; reset does not clear MSG (R42). -/
def Obligations.MessageBytesStayUntilOverwritten : Prop :=
    ∀ (s t : State) (a : BitVec 61), step s = .next t →
      (∀ b : Byte, nextEvent s ≠ .host (.mw a b)) → msgRead t a = msgRead s a

/-- R217. -/
def Obligations.FaultedLaneWaitsForReset : Prop :=
    ∀ (s : State) (rest : List Event), s.err = true → s.upc = .fault → s.busy = false →
      (s.agenda = [] → step s = .next s) ∧
      (s.agenda = .engine :: rest → step s = .next { s with agenda := rest }) ∧
      (∀ r v, s.agenda = .host (.wr r v) :: rest → step s = .next { s with agenda := rest }) ∧
      (∀ a b, s.agenda = .host (.mw a b) :: rest → step s = .next { s with agenda := rest }) ∧
      (∀ r, s.agenda = .host (.rd r) :: rest →
        step s = .next { s with agenda := rest, replies := .word (regRead s r) :: s.replies }) ∧
      (∀ a, s.agenda = .host (.mr a) :: rest →
        step s = .next { s with agenda := rest, replies := .byte (msgRead s a) :: s.replies }) ∧
      (s.agenda = .wait :: rest →
        step s = .next { s with agenda := rest, replies := .word (regRead s 1) :: s.replies }) ∧
      (s.agenda = .host .reset :: rest →
        ∃ t, step s = .next t ∧ t.err = false ∧ t.errCode = 0 ∧ t.upc = .idle)

/-- R216, over every step of the machine. -/
def Obligations.FaultEntryIsSixAssignments : Prop :=
    ∀ s t : State, s.err = false → step s = .next t → t.err = true →
      ∃ (e : HostEvent) (rest : List Event) (f : LaneFault),
        s.agenda = .host e :: rest ∧
        ((∃ r v, e = .wr r v ∧ (r = 0 ∨ r = 2 ∨ r = 3)) ∨ ∃ a b, e = .mw a b) ∧
        t = { s with
          agenda := rest
          err := true
          errCode := match f with
            | .illCmd => 1
            | .busy => 2
            | .len => 3
            | .seq => 4
          busy := false
          auto := false
          dvalid := false
          upc := .fault }

/-- R252's "must not" table (`hostObeys`) and R210. -/
def Obligations.FaultsExactlyOnMisuse : Prop :=
    ∀ (s : State) (e : HostEvent), s.err = false →
      ∃ t : State, hostEvent e s = .next t ∧ (t.err = true ↔ hostObeys s e = false)

/-- R215. `raiseFault f` is the fault entry of R216 (FaultEntryIsSixAssignments). -/
def Obligations.WritePriority : Prop :=
    (∀ (s : State) (r : BitVec 6) (v : Word), r ≠ 0 → r ≠ 2 → r ≠ 3 →
      hostEvent (.wr r v) s = .next s) ∧
    (∀ (s : State) (a : BitVec 61) (b : Byte), msgCap s ≤ a.toNat →
      hostEvent (.mw a b) s = .next s) ∧
    (∀ (s : State) (e : HostEvent), s.err = true → (∃ r v, e = .wr r v) ∨ (∃ a b, e = .mw a b) →
      hostEvent e s = .next s) ∧
    (∀ (s : State) (r : BitVec 6) (v : Word), s.err = false → s.busy = true →
      r = 0 ∨ r = 2 ∨ r = 3 → hostEvent (.wr r v) s = .next (raiseFault .busy s)) ∧
    (∀ (s : State) (a : BitVec 61) (b : Byte), s.err = false → s.busy = true →
      a.toNat < msgCap s → hostEvent (.mw a b) s = .next (raiseFault .busy s)) ∧
    (∀ (s : State) (v : Word), s.err = false → s.busy = false → 10 ≤ v.toNat →
      hostEvent (.wr 0 v) s = .next (raiseFault .illCmd s)) ∧
    (∀ s : State, s.err = false → s.busy = false →
      (2 ^ 61 ≤ s.len.toNat ∨ msgCap s < s.len.toNat →
        hostEvent (.wr 0 0x00000002) s = .next (raiseFault .len s) ∧
        hostEvent (.wr 0 0x00000008) s = .next (raiseFault .len s)) ∧
      (s.blk = s.nblk → hostEvent (.wr 0 0x00000003) s = .next (raiseFault .seq s)))

/-- The "read value" column of R21; STATUS is StatusLayout. -/
def Obligations.RegisterReadMap : Prop :=
    ∀ s : State,
      regRead s 0 = 0 ∧ regRead s 1 = status s ∧
      (regRead s 3 ++ regRead s 2) = s.len ∧
      (regRead s 5 ++ regRead s 4) = s.nblk.setWidth 64 ∧
      (regRead s 7 ++ regRead s 6) = s.blk.setWidth 64 ∧
      regRead s 8 = s.w.a ∧ regRead s 9 = s.w.b ∧ regRead s 10 = s.w.c ∧ regRead s 11 = s.w.d ∧
      (∀ k : Fin 4, regRead s (BitVec.ofNat 6 (12 + k.val)) =
        le32 (s.digest[4 * k.val]) (s.digest[4 * k.val + 1]) (s.digest[4 * k.val + 2])
          (s.digest[4 * k.val + 3])) ∧
      (∀ k : Fin 16, regRead s (BitVec.ofNat 6 (16 + k.val)) = s.m[k]) ∧
      (∀ k : Fin 8, regRead s (BitVec.ofNat 6 (32 + k.val)) =
        le32 (s.hex[4 * k.val]) (s.hex[4 * k.val + 1]) (s.hex[4 * k.val + 2])
          (s.hex[4 * k.val + 3])) ∧
      ∀ r : BitVec 6, 40 ≤ r.toNat → regRead s r = 0

/-- R29, as an arithmetic sum and bit by bit. -/
def Obligations.StatusLayout : Prop :=
    ∀ s : State,
      regRead s 1 = status s ∧
      (status s).toNat = s.errCode.toNat * 2 ^ 8 + s.err.toNat * 2 ^ 4 +
        (decide (s.blk = s.nblk)).toNat * 2 ^ 3 + s.last.toNat * 2 ^ 2 + s.dvalid.toNat * 2 +
        s.busy.toNat ∧
      (status s).getLsbD 0 = s.busy ∧ (status s).getLsbD 1 = s.dvalid ∧
      (status s).getLsbD 2 = s.last ∧ (status s).getLsbD 3 = decide (s.blk = s.nblk) ∧
      (status s).getLsbD 4 = s.err ∧ (status s).extractLsb' 5 3 = 0 ∧
      (status s).extractLsb' 8 4 = s.errCode ∧ (status s).extractLsb' 12 20 = 0 ∧
      ∀ v : Word, hostEvent (.wr 1 v) s = .next s

/-- R196, R199 and R65. Where the value goes (`replies`) is the model's own (log 2). -/
def Obligations.ReadsChangeNothing : Prop :=
    ∀ (s : State) (rest : List Event),
      (∀ r : BitVec 6, s.agenda = .host (.rd r) :: rest →
        step s = .next { s with agenda := rest, replies := .word (regRead s r) :: s.replies }) ∧
      (∀ a : BitVec 61, s.agenda = .host (.mr a) :: rest →
        step s = .next { s with
          agenda := rest
          replies := .byte (if a.toNat < msgCap s then memRead s a.toNat else 0) :: s.replies })

/-- R35: "plain read/write storage", "any value is legal at the time of the write". -/
def Obligations.LengthRegisterHalves : Prop :=
    ∀ (s : State) (rest : List Event), s.busy = false → s.err = false →
      (∀ v : Word, s.agenda = .host (.wr 2 v) :: rest →
        ∃ t, step s = .next t ∧ regRead t 2 = v ∧ regRead t 3 = regRead s 3 ∧
          t = { s with agenda := rest, len := t.len }) ∧
      (∀ v : Word, s.agenda = .host (.wr 3 v) :: rest →
        ∃ t, step s = .next t ∧ regRead t 3 = v ∧ regRead t 2 = regRead s 2 ∧
          t = { s with agenda := rest, len := t.len }) ∧
      ∀ n : BitVec 64,
        runSteps 2 { s with agenda := setLenEvents n ++ rest } =
          .next { s with agenda := rest, len := n }

/-- R198, with the frame of the stored byte: the address stored to is the event's own. -/
def Obligations.MessageWriteEffect : Prop :=
    ∀ (s : State) (a : BitVec 61) (b : Byte) (rest : List Event),
      s.agenda = .host (.mw a b) :: rest →
      (msgCap s ≤ a.toNat ∨ s.err = true → step s = .next { s with agenda := rest }) ∧
      (a.toNat < msgCap s → s.err = false → s.busy = true →
        step s = .next { s with
          agenda := rest, err := true, errCode := 2, busy := false, auto := false,
          dvalid := false, upc := .fault }) ∧
      (a.toNat < msgCap s → s.err = false → s.busy = false →
        ∃ t, step s = .next t ∧ msgRead t a = b ∧
          (∀ a' : BitVec 61, a' ≠ a → msgRead t a' = msgRead s a') ∧
          t = { s with agenda := rest, msg := t.msg })

/-- R240 with the table of R45. -/
def Obligations.ResetEffect : Prop :=
    (∀ (s : State) (rest : List Event), s.agenda = .host .reset :: rest →
      ∃ t : State, step s = .next t ∧ t = { s with
        h := ⟨0, 0, 0, 0⟩, w := ⟨0, 0, 0, 0⟩, m := Vector.replicate 16 0,
        digest := Vector.replicate 16 0, hex := Vector.replicate 32 0, len := 0, mlen := 0,
        nblk := 0, blk := 0, stepCtr := 0, upc := .idle, auto := false, busy := false,
        dvalid := false, last := false, err := false, errCode := 0, agenda := rest } ∧
      (∀ a : BitVec 61, msgRead t a = msgRead s a) ∧ status t = 0x00000008 ∧
      ∀ (i : Instr) (v : Word), encode i = .cmdWord v → i ≠ .chknxt →
        ∃ u : State, exec i t = .next u ∧ u.busy = true ∧ u.err = false) ∧
    ∀ s t : State, step s = .next t →
      (s.err = true → t.err = false → nextEvent s = .host .reset) ∧
      (s.err = true → s.upc = .fault → t.upc ≠ .fault → nextEvent s = .host .reset)

/-- R24: "the host can neither read nor write them"; R61: H, MLEN, STEP, UPC and AUTO are in neither
space. -/
def Obligations.HiddenStateIsNotReadable : Prop :=
    ∀ (s : State) (h : Quad) (mlen : BitVec 61) (stepCtr : BitVec 6) (upc : UPC) (auto : Bool),
      let t := { s with h := h, mlen := mlen, stepCtr := stepCtr, upc := upc, auto := auto }
      (∀ r : BitVec 6, regRead t r = regRead s r) ∧ ∀ a : BitVec 61, msgRead t a = msgRead s a

/-- R130's characterisation of NBLKF and R36's width. -/
def Obligations.BlockCountIsSmallest : Prop :=
    (∀ l : Nat, l + 9 ≤ 64 * nblkf l ∧ ∀ n : Nat, l + 9 ≤ 64 * n → nblkf l ≤ n) ∧
    (∀ l : Nat, l < 2 ^ 61 → (BitVec.ofNat 56 (nblkf l)).toNat = nblkf l) ∧
    nblkf (2 ^ 61 - 1) = 2 ^ 55 + 1

/-- R130's four conditions on p, read off the blocks the chunker hands to the round. -/
def Obligations.BlocksAreThePaddedStream : Prop :=
    ∀ (l : Nat) (message : Nat → Byte) (p : Nat), l < 2 ^ 61 → p < 64 * nblkf l →
      let byte := ((messageBlock l message (p / 64))[p % 64 / 4]?).map (byteOf (p % 4))
      (p < l → byte = some (message p)) ∧
      (p = l → byte = some 0x80) ∧
      (l < p → p < 64 * nblkf l - 8 → byte = some 0x00) ∧
      (64 * nblkf l - 8 ≤ p →
        byte = some (BitVec.ofNat 8 (8 * l / 2 ^ (8 * (p - (64 * nblkf l - 8))))))

/-- R64: "it reads no address at or above MLEN", "Only U_CHUNK reads MSG". -/
def Obligations.ChunkerReadsOnlyTheMessage : Prop :=
    (∀ s s' t t' : State, s.upc = .uChunk → s'.upc = .uChunk → s.mlen = s'.mlen →
      s.nblk = s'.nblk → s.blk = s'.blk →
      (∀ p : Nat, 64 * s.blk.toNat ≤ p → p < 64 * s.blk.toNat + 64 → p < s.mlen.toNat →
        memRead s p = memRead s' p) →
      engineEvent s = .next t → engineEvent s' = .next t' → t.m = t'.m) ∧
    (∀ (s : State) (p : Nat), s.mlen.toNat ≤ msgCap s → p < s.mlen.toNat → p < msgCap s) ∧
    ∀ (s t : State) (mem : Memory) (k : Nat), s.upc ≠ .uChunk → engineEvent s = .next t →
      engineEvent { s with msg := mem, powerUp := k } = .next { t with msg := mem, powerUp := k }

/-- R134's last sentence and R136: all 8 bytes are written. -/
def Obligations.FinalBlockHoldsTheLength : Prop :=
    ∀ s : State, s.upc = .uChunk → s.nblk.toNat = nblkf s.mlen.toNat →
      s.blk.toNat + 1 = s.nblk.toNat →
      ∃ t : State, engineEvent s = .next t ∧ t.last = true ∧
        t.m[14] = (BitVec.ofNat 64 (8 * s.mlen.toNat)).extractLsb' 0 32 ∧
        t.m[15] = (BitVec.ofNat 64 (8 * s.mlen.toNat)).extractLsb' 32 32 ∧
        (byteOf 3 t.m[15] ≠ 0 ↔ 2 ^ 53 ≤ s.mlen.toNat)

/-- R191: "always matches the pattern"; the rendering loses nothing. -/
def Obligations.HexIsLowercaseAndFaithful : Prop :=
    (∀ (d : Vector Byte 16) (j : Fin 32),
      (0x30 ≤ ((hexString d)[j]).toNat ∧ ((hexString d)[j]).toNat ≤ 0x39) ∨
      (0x61 ≤ ((hexString d)[j]).toNat ∧ ((hexString d)[j]).toNat ≤ 0x66)) ∧
    ∀ d d' : Vector Byte 16, hexString d = hexString d' → d = d'

/-- R25: "REG[12] = the H.A that was serialized". -/
def Obligations.DigestRegistersShowTheState : Prop :=
    ∀ s : State, s.upc = .uSerial →
      ∃ t : State, engineEvent s = .next t ∧ t.dvalid = true ∧
        regRead t 12 = s.h.a ∧ regRead t 13 = s.h.b ∧ regRead t 14 = s.h.c ∧
        regRead t 15 = s.h.d

/-- R44 over every step, in the inductive form `Inv` (Safety.lean); the canonical form of memory is
the model's own (log 5). -/
def Obligations.StepKeepsInvariant : Prop :=
    ∀ s t : State, Inv s → step s = .next t → Inv t

/-- R44: "hold after reset"; R45's values. -/
def Obligations.ResetMeetsInvariant : Prop :=
    ∀ (params : Params) (powerUp : Nat) (agenda : List Event),
      Inv { State.reset with params := params, powerUp := powerUp, agenda := agenda }

/-- R44, word for word (`SpecInvariants`), over every reachable state. -/
def Obligations.InvariantGivesSpecInvariants : Prop :=
    (∀ s : State, Inv s → SpecInvariants s) ∧
    ∀ (params : Params) (powerUp : Nat) (agenda : List Event) (n : Nat) (t : State),
      runSteps n { State.reset with params := params, powerUp := powerUp, agenda := agenda } =
        .next t → SpecInvariants t

/-- R230. A chip is a list of lanes (log 6). -/
def Obligations.LanesAreIndependent : Prop :=
    (∀ (c : Chip) (k : Nat) (s : State), c.lanes[k]? = some s →
      ∃ (c' : Chip) (t : State), Chip.stepLane k c = .next c' ∧ step s = .next t ∧
        c'.lanes[k]? = some t ∧ c'.lanes.length = c.lanes.length ∧
        ∀ j : Nat, j ≠ k → c'.lanes[j]? = c.lanes[j]?) ∧
    (∀ (c : Chip) (j k : Nat), j ≠ k → Chip.run [j, k] c = Chip.run [k, j] c) ∧
    ∀ (n k : Nat), k < n → ∃ s : State, (Chip.reset n).lanes[k]? = some s ∧ Ready s

/-- R65 and R196, for every interleaving (R70). -/
def Obligations.ReadsDoNotDisturbTheEngine : Prop :=
    ∀ (events rest : List Event) (s t : State),
      (∀ e ∈ events, e = .engine ∨ (∃ r, e = .host (.rd r)) ∨ ∃ a, e = .host (.mr a)) →
      runSteps events.length { s with agenda := events ++ rest } = .next t →
      runSteps (events.count .engine)
        { s with agenda := List.replicate (events.count .engine) .engine ++ rest } =
        .next { t with replies := s.replies }

/-- R250: "A `WAIT` loop then terminates". -/
def Obligations.WaitTerminates : Prop :=
    ∀ (s : State) (rest : List Event), Inv s → s.agenda = .wait :: rest →
      ∃ (n : Nat) (t : State) (v : Word) (more : List Reply), runSteps n s = .next t ∧
        t.agenda = rest ∧ t.busy = false ∧ t.replies = .word v :: more ∧ v.getLsbD 0 = false

/-- How the meaning of a command reaches a run (R197). The model's own: exec of a command is its write to
CMD (log 10, DEDUCED), `withFetchWord` places a 32-bit row as that write (log 9, DESIGN CHOICE), and
the next event is the first on the agenda (log 1, DESIGN CHOICE). -/
def Obligations.StepRunsTheCommand : Prop :=
    (∀ (s : State) (v : Word) (i : Instr) (rest : List Event),
      s.agenda = .host (.wr 0 v) :: rest → decode (.cmdWord v) = .ok i →
      step s = exec i { s with agenda := rest }) ∧
    ∀ (s : State) (w : Nat) (i : Instr), decodeTableWord 32 w = some i →
      step (s.withFetchWord 32 w) = exec i s

/-- How the meaning of a USTEP row reaches a run (R93, R153). The model's own: the engine moves when
nothing is listed (log 1, DESIGN CHOICE), `withFetchWord` takes a row of at most 8 bits as a value of
STEP and puts the lane into the round (log 9, DESIGN CHOICE), and a row tests neither UPC nor STEP
(log 11, DEDUCED). -/
def Obligations.StepRunsTheStepRow : Prop :=
    (∀ (s : State) (i : Instr) (rest : List Event), s.upc = .uStep →
      decode (.stepCounter s.stepCtr) = .ok i →
      (s.agenda = .engine :: rest → step s = exec i { s with agenda := rest }) ∧
      (s.agenda = [] → step s = exec i s)) ∧
    ∀ (s : State) (w : Nat) (i : Instr), decodeTableWord 8 w = some i →
      step (s.withFetchWord 8 w) =
        exec i { s with upc := .uStep, busy := true, stepCtr := BitVec.ofNat 6 w }
end

