-- ==== Sys2Proof/Laws/State.lean ====
section
/-! SUPPORT. One lemma per field per update of `Machine/Ops.lean`: what each shared operation leaves
in each field of `State`. -/

namespace Sys2Proof.Machine

section raiseFault

variable (f : LaneFault) (s : State)

@[simp] theorem raiseFault_h : (raiseFault f s).h = s.h := rfl
@[simp] theorem raiseFault_w : (raiseFault f s).w = s.w := rfl
@[simp] theorem raiseFault_m : (raiseFault f s).m = s.m := rfl
@[simp] theorem raiseFault_digest : (raiseFault f s).digest = s.digest := rfl
@[simp] theorem raiseFault_hex : (raiseFault f s).hex = s.hex := rfl
@[simp] theorem raiseFault_len : (raiseFault f s).len = s.len := rfl
@[simp] theorem raiseFault_mlen : (raiseFault f s).mlen = s.mlen := rfl
@[simp] theorem raiseFault_nblk : (raiseFault f s).nblk = s.nblk := rfl
@[simp] theorem raiseFault_blk : (raiseFault f s).blk = s.blk := rfl
@[simp] theorem raiseFault_stepCtr : (raiseFault f s).stepCtr = s.stepCtr := rfl
@[simp] theorem raiseFault_upc : (raiseFault f s).upc = .fault := rfl
@[simp] theorem raiseFault_auto : (raiseFault f s).auto = false := rfl
@[simp] theorem raiseFault_busy : (raiseFault f s).busy = false := rfl
@[simp] theorem raiseFault_dvalid : (raiseFault f s).dvalid = false := rfl
@[simp] theorem raiseFault_last : (raiseFault f s).last = s.last := rfl
@[simp] theorem raiseFault_err : (raiseFault f s).err = true := rfl
@[simp] theorem raiseFault_errCode : (raiseFault f s).errCode = f.code := rfl
@[simp] theorem raiseFault_msg : (raiseFault f s).msg = s.msg := rfl
@[simp] theorem raiseFault_params : (raiseFault f s).params = s.params := rfl
@[simp] theorem raiseFault_powerUp : (raiseFault f s).powerUp = s.powerUp := rfl
@[simp] theorem raiseFault_agenda : (raiseFault f s).agenda = s.agenda := rfl
@[simp] theorem raiseFault_replies : (raiseFault f s).replies = s.replies := rfl

end raiseFault

section accept

variable (u : UPC) (a : Bool) (s : State)

@[simp] theorem accept_h : (accept u a s).h = s.h := rfl
@[simp] theorem accept_w : (accept u a s).w = s.w := rfl
@[simp] theorem accept_m : (accept u a s).m = s.m := rfl
@[simp] theorem accept_digest : (accept u a s).digest = s.digest := rfl
@[simp] theorem accept_hex : (accept u a s).hex = s.hex := rfl
@[simp] theorem accept_len : (accept u a s).len = s.len := rfl
@[simp] theorem accept_mlen : (accept u a s).mlen = s.mlen := rfl
@[simp] theorem accept_nblk : (accept u a s).nblk = s.nblk := rfl
@[simp] theorem accept_blk : (accept u a s).blk = s.blk := rfl
@[simp] theorem accept_stepCtr : (accept u a s).stepCtr = s.stepCtr := rfl
@[simp] theorem accept_upc : (accept u a s).upc = u := rfl
@[simp] theorem accept_auto : (accept u a s).auto = a := rfl
@[simp] theorem accept_busy : (accept u a s).busy = true := rfl
@[simp] theorem accept_dvalid : (accept u a s).dvalid = s.dvalid := rfl
@[simp] theorem accept_last : (accept u a s).last = s.last := rfl
@[simp] theorem accept_err : (accept u a s).err = s.err := rfl
@[simp] theorem accept_errCode : (accept u a s).errCode = s.errCode := rfl
@[simp] theorem accept_msg : (accept u a s).msg = s.msg := rfl
@[simp] theorem accept_params : (accept u a s).params = s.params := rfl
@[simp] theorem accept_powerUp : (accept u a s).powerUp = s.powerUp := rfl
@[simp] theorem accept_agenda : (accept u a s).agenda = s.agenda := rfl
@[simp] theorem accept_replies : (accept u a s).replies = s.replies := rfl

end accept

section latchLength

variable (s : State)

@[simp] theorem latchLength_h : (latchLength s).h = s.h := rfl
@[simp] theorem latchLength_w : (latchLength s).w = s.w := rfl
@[simp] theorem latchLength_m : (latchLength s).m = s.m := rfl
@[simp] theorem latchLength_digest : (latchLength s).digest = s.digest := rfl
@[simp] theorem latchLength_hex : (latchLength s).hex = s.hex := rfl
@[simp] theorem latchLength_len : (latchLength s).len = s.len := rfl
@[simp] theorem latchLength_mlen : (latchLength s).mlen = s.len.extractLsb' 0 61 := rfl
@[simp] theorem latchLength_nblk : (latchLength s).nblk = s.nblk := rfl
@[simp] theorem latchLength_blk : (latchLength s).blk = s.blk := rfl
@[simp] theorem latchLength_stepCtr : (latchLength s).stepCtr = s.stepCtr := rfl
@[simp] theorem latchLength_upc : (latchLength s).upc = s.upc := rfl
@[simp] theorem latchLength_auto : (latchLength s).auto = s.auto := rfl
@[simp] theorem latchLength_busy : (latchLength s).busy = s.busy := rfl
@[simp] theorem latchLength_dvalid : (latchLength s).dvalid = s.dvalid := rfl
@[simp] theorem latchLength_last : (latchLength s).last = s.last := rfl
@[simp] theorem latchLength_err : (latchLength s).err = s.err := rfl
@[simp] theorem latchLength_errCode : (latchLength s).errCode = s.errCode := rfl
@[simp] theorem latchLength_msg : (latchLength s).msg = s.msg := rfl
@[simp] theorem latchLength_params : (latchLength s).params = s.params := rfl
@[simp] theorem latchLength_powerUp : (latchLength s).powerUp = s.powerUp := rfl
@[simp] theorem latchLength_agenda : (latchLength s).agenda = s.agenda := rfl
@[simp] theorem latchLength_replies : (latchLength s).replies = s.replies := rfl

end latchLength

section setLenLo

variable (v : Word) (s : State)

@[simp] theorem setLenLo_h : (setLenLo v s).h = s.h := rfl
@[simp] theorem setLenLo_w : (setLenLo v s).w = s.w := rfl
@[simp] theorem setLenLo_m : (setLenLo v s).m = s.m := rfl
@[simp] theorem setLenLo_digest : (setLenLo v s).digest = s.digest := rfl
@[simp] theorem setLenLo_hex : (setLenLo v s).hex = s.hex := rfl
@[simp] theorem setLenLo_len : (setLenLo v s).len = s.len.extractLsb' 32 32 ++ v := rfl
@[simp] theorem setLenLo_mlen : (setLenLo v s).mlen = s.mlen := rfl
@[simp] theorem setLenLo_nblk : (setLenLo v s).nblk = s.nblk := rfl
@[simp] theorem setLenLo_blk : (setLenLo v s).blk = s.blk := rfl
@[simp] theorem setLenLo_stepCtr : (setLenLo v s).stepCtr = s.stepCtr := rfl
@[simp] theorem setLenLo_upc : (setLenLo v s).upc = s.upc := rfl
@[simp] theorem setLenLo_auto : (setLenLo v s).auto = s.auto := rfl
@[simp] theorem setLenLo_busy : (setLenLo v s).busy = s.busy := rfl
@[simp] theorem setLenLo_dvalid : (setLenLo v s).dvalid = s.dvalid := rfl
@[simp] theorem setLenLo_last : (setLenLo v s).last = s.last := rfl
@[simp] theorem setLenLo_err : (setLenLo v s).err = s.err := rfl
@[simp] theorem setLenLo_errCode : (setLenLo v s).errCode = s.errCode := rfl
@[simp] theorem setLenLo_msg : (setLenLo v s).msg = s.msg := rfl
@[simp] theorem setLenLo_params : (setLenLo v s).params = s.params := rfl
@[simp] theorem setLenLo_powerUp : (setLenLo v s).powerUp = s.powerUp := rfl
@[simp] theorem setLenLo_agenda : (setLenLo v s).agenda = s.agenda := rfl
@[simp] theorem setLenLo_replies : (setLenLo v s).replies = s.replies := rfl

end setLenLo

section setLenHi

variable (v : Word) (s : State)

@[simp] theorem setLenHi_h : (setLenHi v s).h = s.h := rfl
@[simp] theorem setLenHi_w : (setLenHi v s).w = s.w := rfl
@[simp] theorem setLenHi_m : (setLenHi v s).m = s.m := rfl
@[simp] theorem setLenHi_digest : (setLenHi v s).digest = s.digest := rfl
@[simp] theorem setLenHi_hex : (setLenHi v s).hex = s.hex := rfl
@[simp] theorem setLenHi_len : (setLenHi v s).len = v ++ s.len.extractLsb' 0 32 := rfl
@[simp] theorem setLenHi_mlen : (setLenHi v s).mlen = s.mlen := rfl
@[simp] theorem setLenHi_nblk : (setLenHi v s).nblk = s.nblk := rfl
@[simp] theorem setLenHi_blk : (setLenHi v s).blk = s.blk := rfl
@[simp] theorem setLenHi_stepCtr : (setLenHi v s).stepCtr = s.stepCtr := rfl
@[simp] theorem setLenHi_upc : (setLenHi v s).upc = s.upc := rfl
@[simp] theorem setLenHi_auto : (setLenHi v s).auto = s.auto := rfl
@[simp] theorem setLenHi_busy : (setLenHi v s).busy = s.busy := rfl
@[simp] theorem setLenHi_dvalid : (setLenHi v s).dvalid = s.dvalid := rfl
@[simp] theorem setLenHi_last : (setLenHi v s).last = s.last := rfl
@[simp] theorem setLenHi_err : (setLenHi v s).err = s.err := rfl
@[simp] theorem setLenHi_errCode : (setLenHi v s).errCode = s.errCode := rfl
@[simp] theorem setLenHi_msg : (setLenHi v s).msg = s.msg := rfl
@[simp] theorem setLenHi_params : (setLenHi v s).params = s.params := rfl
@[simp] theorem setLenHi_powerUp : (setLenHi v s).powerUp = s.powerUp := rfl
@[simp] theorem setLenHi_agenda : (setLenHi v s).agenda = s.agenda := rfl
@[simp] theorem setLenHi_replies : (setLenHi v s).replies = s.replies := rfl

end setLenHi

section memWrite

variable (a : Nat) (b : Byte) (s : State)

@[simp] theorem memWrite_h : (memWrite a b s).h = s.h := rfl
@[simp] theorem memWrite_w : (memWrite a b s).w = s.w := rfl
@[simp] theorem memWrite_m : (memWrite a b s).m = s.m := rfl
@[simp] theorem memWrite_digest : (memWrite a b s).digest = s.digest := rfl
@[simp] theorem memWrite_hex : (memWrite a b s).hex = s.hex := rfl
@[simp] theorem memWrite_len : (memWrite a b s).len = s.len := rfl
@[simp] theorem memWrite_mlen : (memWrite a b s).mlen = s.mlen := rfl
@[simp] theorem memWrite_nblk : (memWrite a b s).nblk = s.nblk := rfl
@[simp] theorem memWrite_blk : (memWrite a b s).blk = s.blk := rfl
@[simp] theorem memWrite_stepCtr : (memWrite a b s).stepCtr = s.stepCtr := rfl
@[simp] theorem memWrite_upc : (memWrite a b s).upc = s.upc := rfl
@[simp] theorem memWrite_auto : (memWrite a b s).auto = s.auto := rfl
@[simp] theorem memWrite_busy : (memWrite a b s).busy = s.busy := rfl
@[simp] theorem memWrite_dvalid : (memWrite a b s).dvalid = s.dvalid := rfl
@[simp] theorem memWrite_last : (memWrite a b s).last = s.last := rfl
@[simp] theorem memWrite_err : (memWrite a b s).err = s.err := rfl
@[simp] theorem memWrite_errCode : (memWrite a b s).errCode = s.errCode := rfl
@[simp] theorem memWrite_msg : (memWrite a b s).msg = Memory.store s.msg a b := rfl
@[simp] theorem memWrite_params : (memWrite a b s).params = s.params := rfl
@[simp] theorem memWrite_powerUp : (memWrite a b s).powerUp = s.powerUp := rfl
@[simp] theorem memWrite_agenda : (memWrite a b s).agenda = s.agenda := rfl
@[simp] theorem memWrite_replies : (memWrite a b s).replies = s.replies := rfl

end memWrite

section answer

variable (r : Reply) (s : State)

@[simp] theorem answer_h : (answer r s).h = s.h := rfl
@[simp] theorem answer_w : (answer r s).w = s.w := rfl
@[simp] theorem answer_m : (answer r s).m = s.m := rfl
@[simp] theorem answer_digest : (answer r s).digest = s.digest := rfl
@[simp] theorem answer_hex : (answer r s).hex = s.hex := rfl
@[simp] theorem answer_len : (answer r s).len = s.len := rfl
@[simp] theorem answer_mlen : (answer r s).mlen = s.mlen := rfl
@[simp] theorem answer_nblk : (answer r s).nblk = s.nblk := rfl
@[simp] theorem answer_blk : (answer r s).blk = s.blk := rfl
@[simp] theorem answer_stepCtr : (answer r s).stepCtr = s.stepCtr := rfl
@[simp] theorem answer_upc : (answer r s).upc = s.upc := rfl
@[simp] theorem answer_auto : (answer r s).auto = s.auto := rfl
@[simp] theorem answer_busy : (answer r s).busy = s.busy := rfl
@[simp] theorem answer_dvalid : (answer r s).dvalid = s.dvalid := rfl
@[simp] theorem answer_last : (answer r s).last = s.last := rfl
@[simp] theorem answer_err : (answer r s).err = s.err := rfl
@[simp] theorem answer_errCode : (answer r s).errCode = s.errCode := rfl
@[simp] theorem answer_msg : (answer r s).msg = s.msg := rfl
@[simp] theorem answer_params : (answer r s).params = s.params := rfl
@[simp] theorem answer_powerUp : (answer r s).powerUp = s.powerUp := rfl
@[simp] theorem answer_agenda : (answer r s).agenda = s.agenda := rfl
@[simp] theorem answer_replies : (answer r s).replies = r :: s.replies := rfl

end answer

section toIdle

variable (s : State)

@[simp] theorem toIdle_h : (toIdle s).h = s.h := rfl
@[simp] theorem toIdle_w : (toIdle s).w = s.w := rfl
@[simp] theorem toIdle_m : (toIdle s).m = s.m := rfl
@[simp] theorem toIdle_digest : (toIdle s).digest = s.digest := rfl
@[simp] theorem toIdle_hex : (toIdle s).hex = s.hex := rfl
@[simp] theorem toIdle_len : (toIdle s).len = s.len := rfl
@[simp] theorem toIdle_mlen : (toIdle s).mlen = s.mlen := rfl
@[simp] theorem toIdle_nblk : (toIdle s).nblk = s.nblk := rfl
@[simp] theorem toIdle_blk : (toIdle s).blk = s.blk := rfl
@[simp] theorem toIdle_stepCtr : (toIdle s).stepCtr = s.stepCtr := rfl
@[simp] theorem toIdle_upc : (toIdle s).upc = .idle := rfl
@[simp] theorem toIdle_auto : (toIdle s).auto = false := rfl
@[simp] theorem toIdle_busy : (toIdle s).busy = false := rfl
@[simp] theorem toIdle_dvalid : (toIdle s).dvalid = s.dvalid := rfl
@[simp] theorem toIdle_last : (toIdle s).last = s.last := rfl
@[simp] theorem toIdle_err : (toIdle s).err = s.err := rfl
@[simp] theorem toIdle_errCode : (toIdle s).errCode = s.errCode := rfl
@[simp] theorem toIdle_msg : (toIdle s).msg = s.msg := rfl
@[simp] theorem toIdle_params : (toIdle s).params = s.params := rfl
@[simp] theorem toIdle_powerUp : (toIdle s).powerUp = s.powerUp := rfl
@[simp] theorem toIdle_agenda : (toIdle s).agenda = s.agenda := rfl
@[simp] theorem toIdle_replies : (toIdle s).replies = s.replies := rfl

end toIdle

section resetLane

variable (s : State)

@[simp] theorem resetLane_h : (resetLane s).h = Quad.zero := rfl
@[simp] theorem resetLane_w : (resetLane s).w = Quad.zero := rfl
@[simp] theorem resetLane_m : (resetLane s).m = Vector.replicate 16 0 := rfl
@[simp] theorem resetLane_digest : (resetLane s).digest = Vector.replicate 16 0 := rfl
@[simp] theorem resetLane_hex : (resetLane s).hex = Vector.replicate 32 0 := rfl
@[simp] theorem resetLane_len : (resetLane s).len = 0 := rfl
@[simp] theorem resetLane_mlen : (resetLane s).mlen = 0 := rfl
@[simp] theorem resetLane_nblk : (resetLane s).nblk = 0 := rfl
@[simp] theorem resetLane_blk : (resetLane s).blk = 0 := rfl
@[simp] theorem resetLane_stepCtr : (resetLane s).stepCtr = 0 := rfl
@[simp] theorem resetLane_upc : (resetLane s).upc = .idle := rfl
@[simp] theorem resetLane_auto : (resetLane s).auto = false := rfl
@[simp] theorem resetLane_busy : (resetLane s).busy = false := rfl
@[simp] theorem resetLane_dvalid : (resetLane s).dvalid = false := rfl
@[simp] theorem resetLane_last : (resetLane s).last = false := rfl
@[simp] theorem resetLane_err : (resetLane s).err = false := rfl
@[simp] theorem resetLane_errCode : (resetLane s).errCode = 0 := rfl
@[simp] theorem resetLane_msg : (resetLane s).msg = s.msg := rfl
@[simp] theorem resetLane_params : (resetLane s).params = s.params := rfl
@[simp] theorem resetLane_powerUp : (resetLane s).powerUp = s.powerUp := rfl
@[simp] theorem resetLane_agenda : (resetLane s).agenda = s.agenda := rfl
@[simp] theorem resetLane_replies : (resetLane s).replies = s.replies := rfl

end resetLane

end Sys2Proof.Machine
end

