-- ==== Sys2Proof/Laws/Memory.lean ====
section
/-! SUPPORT. The laws of the message memory: read after write, the frame of a write, and that a write
keeps the canonical form. -/

namespace Sys2Proof.Machine

@[simp] theorem written_nil (a : Nat) : Memory.written [] a = none := rfl

theorem written_cons (k : Nat) (v : Byte) (rest : Memory) (a : Nat) :
    Memory.written ((k, v) :: rest) a = if k = a then some v else Memory.written rest a := rfl

/-- The byte just stored is read back. -/
@[simp] theorem written_store_same (mem : Memory) (a : Nat) (b : Byte) :
    Memory.written (Memory.store mem a b) a = some b := by
  induction mem with
  | nil => simp [Memory.store, written_cons]
  | cons c rest ih =>
    obtain ⟨k, v⟩ := c
    simp only [Memory.store]
    split
    · simp [written_cons]
    · split
      · simp [written_cons]
      · rename_i h1 h2
        simp [written_cons, ih, Ne.symm h2]

/-- Every other address reads as before. -/
theorem written_store_other (mem : Memory) {a a' : Nat} (b : Byte) (h : a' ≠ a) :
    Memory.written (Memory.store mem a b) a' = Memory.written mem a' := by
  induction mem with
  | nil => simp [Memory.store, written_cons, Ne.symm h]
  | cons c rest ih =>
    obtain ⟨k, v⟩ := c
    simp only [Memory.store]
    split
    · simp [written_cons, Ne.symm h]
    · split
      · rename_i h1 h2
        subst h2
        simp [written_cons, Ne.symm h]
      · simp [written_cons, ih]

/-- A test that holds of the stored address and of every listed address holds of every address
listed afterwards. -/
theorem all_store (p : Nat → Bool) (mem : Memory) (a : Nat) (b : Byte)
    (hmem : (mem.all fun c => p c.1) = true) (ha : p a = true) :
    ((Memory.store mem a b).all fun c => p c.1) = true := by
  induction mem with
  | nil => simp [Memory.store, ha]
  | cons c rest ih =>
    obtain ⟨k, v⟩ := c
    simp only [List.all_cons, Bool.and_eq_true] at hmem
    simp only [Memory.store]
    split
    · simp [ha, hmem.1, hmem.2]
    · split
      · simp [ha, hmem.2]
      · simp [hmem.1, ih hmem.2]

/-- A write keeps the canonical form. -/
theorem store_wf (mem : Memory) (a : Nat) (b : Byte) (h : Memory.wf mem = true) :
    Memory.wf (Memory.store mem a b) = true := by
  induction mem with
  | nil => rfl
  | cons c rest ih =>
    obtain ⟨k, v⟩ := c
    simp only [Memory.wf, Bool.and_eq_true] at h
    obtain ⟨hall, hrest⟩ := h
    simp only [Memory.store]
    split
    · rename_i hak
      simp only [Memory.wf, Bool.and_eq_true, List.all_cons, decide_eq_true_eq]
      refine ⟨⟨hak, ?_⟩, hall, hrest⟩
      rw [List.all_eq_true] at hall ⊢
      intro c hc
      have := hall c hc
      simp only [decide_eq_true_eq] at this ⊢
      omega
    · split
      · rename_i h1 h2
        subst h2
        simp only [Memory.wf, Bool.and_eq_true]
        exact ⟨hall, hrest⟩
      · rename_i h1 h2
        simp only [Memory.wf, Bool.and_eq_true]
        refine ⟨all_store (fun x => decide (k < x)) rest a b hall ?_, ih hrest⟩
        simp only [decide_eq_true_eq]
        omega

/-- A write inside the memory keeps every listed address inside. -/
theorem store_below (bound : Nat) (mem : Memory) (a : Nat) (b : Byte)
    (h : Memory.below bound mem = true) (ha : a < bound) :
    Memory.below bound (Memory.store mem a b) = true :=
  all_store (fun x => decide (x < bound)) mem a b h (by simpa using ha)

/-- The reset state's memory has the canonical form. -/
theorem reset_memory_wf : Memory.wf State.reset.msg = true := rfl

/-- What a lane reads at the address just written. -/
@[simp] theorem memRead_memWrite_same (a : Nat) (b : Byte) (s : State) :
    memRead (memWrite a b s) a = b := by
  simp [memRead]

/-- What a lane reads at every other address. -/
theorem memRead_memWrite_other {a a' : Nat} (b : Byte) (s : State) (h : a' ≠ a) :
    memRead (memWrite a b s) a' = memRead s a' := by
  simp [memRead, written_store_other s.msg b h]

end Sys2Proof.Machine
end

