-- ==== Sys2Proof/Laws/Ops.lean ====
section
/-! SUPPORT. Everything the shared operations can do, said once: the guard of a host write, command
acceptance and the two ends of a micro-operation. -/

namespace Sys2Proof.Machine

/-- The three outcomes of a guarded write (60_exceptions.md R215 steps 2 and 3). -/
theorem guardWrite_cases (act : State → State) (s : State) :
    (s.err = true ∧ guardWrite act s = s) ∨
    (s.err = false ∧ s.busy = true ∧ guardWrite act s = raiseFault .busy s) ∨
    (s.err = false ∧ s.busy = false ∧ guardWrite act s = act s) := by
  unfold guardWrite
  cases s.err <;> cases s.busy <;> simp

/-- A faulted lane drops the write. -/
theorem guardWrite_err (act : State → State) {s : State} (h : s.err = true) :
    guardWrite act s = s := by simp [guardWrite, h]

/-- A busy lane faults with E_BUSY. -/
theorem guardWrite_busy (act : State → State) {s : State} (h : s.err = false)
    (hb : s.busy = true) : guardWrite act s = raiseFault .busy s := by
  simp [guardWrite, h, hb]

/-- An idle lane performs the write. -/
theorem guardWrite_idle (act : State → State) {s : State} (h : s.err = false)
    (hb : s.busy = false) : guardWrite act s = act s := by
  simp [guardWrite, h, hb]

/-- A length is legal exactly when it is below 2^61 and within the memory (60_exceptions.md R213). -/
theorem lenIllegal_eq_false (s : State) :
    lenIllegal s = false ↔ s.len.toNat < 2 ^ 61 ∧ s.len.toNat ≤ msgCap s := by
  simp only [lenIllegal, Bool.or_eq_false_iff, decide_eq_false_iff_not, Nat.not_le, Nat.not_lt]
  rfl

/-- Acceptance with a legal length. -/
theorem acceptWithLength_legal (u : UPC) (auto : Bool) {s : State} (h : lenIllegal s = false) :
    acceptWithLength u auto s = accept u auto (latchLength s) := by
  simp [acceptWithLength, h]

/-- Acceptance with an illegal length. -/
theorem acceptWithLength_illegal (u : UPC) (auto : Bool) {s : State} (h : lenIllegal s = true) :
    acceptWithLength u auto s = raiseFault .len s := by
  simp [acceptWithLength, h]

/-- A legal length is latched without loss (10_state.md R37). -/
theorem latchLength_toNat {s : State} (h : s.len.toNat < 2 ^ 61) :
    (latchLength s).mlen.toNat = s.len.toNat := by
  simp only [latchLength_mlen, BitVec.extractLsb'_toNat, Nat.shiftRight_zero]
  exact Nat.mod_eq_of_lt h

/-- The two ends of a micro-operation (10_state.md R40). -/
theorem handOver_auto (u : UPC) {s : State} (h : s.auto = true) :
    handOver u s = { s with upc := u } := by simp [handOver, h]

theorem handOver_single (u : UPC) {s : State} (h : s.auto = false) :
    handOver u s = toIdle s := by simp [handOver, h]

/-- Handing over writes UPC, BUSY and AUTO only. -/
theorem handOver_frame (u : UPC) (s : State) :
    ∃ u' b' a', handOver u s = { s with upc := u', busy := b', auto := a' } := by
  unfold handOver
  split
  · exact ⟨u, s.busy, s.auto, rfl⟩
  · exact ⟨.idle, false, false, rfl⟩

/-- The capacity is a parameter: nothing the shared operations do changes it. -/
@[simp] theorem msgCap_resetLane (s : State) : msgCap (resetLane s) = msgCap s := rfl

/-- Reset leaves MSG alone (70_reset_and_hazards.md R240). -/
@[simp] theorem memRead_resetLane (s : State) (a : Nat) : memRead (resetLane s) a = memRead s a := rfl

end Sys2Proof.Machine
end

