-- ==== Sys2Proof/Laws/Round.lean ====
section
/-! SUPPORT. The step selection and the 64 step rows: what each derived operand is, and that the arm of
USTEP.i is the step operation of i. -/

namespace Sys2Proof.Machine

/-- The function of step i, by the quartile's bounds (42_round.md R154 to R157). -/
theorem stepFunction_eq (i : BitVec 6) (b c d : Word) :
    stepFunction i b c d =
      if i.toNat < 16 then f0 b c d else if i.toNat < 32 then f1 b c d
      else if i.toNat < 48 then f2 b c d else f3 b c d := by
  have := i.isLt
  unfold stepFunction quartile
  by_cases h1 : i.toNat < 16
  · rw [show i.toNat / 16 = 0 by omega, if_pos h1]
    rfl
  · by_cases h2 : i.toNat < 32
    · rw [show i.toNat / 16 = 1 by omega, if_neg h1, if_pos h2]
      rfl
    · by_cases h3 : i.toNat < 48
      · rw [show i.toNat / 16 = 2 by omega, if_neg h1, if_neg h2, if_pos h3]
        rfl
      · rw [show i.toNat / 16 = 3 by omega, if_neg h1, if_neg h2, if_neg h3]
        rfl

/-- The message-word index of step i, by the quartile's bounds (30_encoding.md R93). -/
theorem wordIndex_eq (i : BitVec 6) :
    wordIndex i =
      if i.toNat < 16 then i.toNat else if i.toNat < 32 then (5 * i.toNat + 1) % 16
      else if i.toNat < 48 then (3 * i.toNat + 5) % 16 else (7 * i.toNat) % 16 := by
  revert i
  decide +kernel

/-- STEP's increment is (i + 1) mod 64 (42_round.md R153). -/
theorem stepCtr_succ (i : BitVec 6) : i + 1 = BitVec.ofNat 6 ((i.toNat + 1) % 64) := by
  apply BitVec.eq_of_toNat_eq
  simp

/-- The last step. -/
theorem eq_63_iff (i : BitVec 6) : i = 63 ↔ i.toNat = 63 := by
  constructor
  · rintro rfl
    rfl
  · intro h
    apply BitVec.eq_of_toNat_eq
    simpa using h

/-- USTEP.i is the step operation of its own number: the 64 arms of `exec` in one lemma. -/
theorem exec_stepInstr (i : BitVec 6) (s : State) : exec (stepInstr i) s = stepOp i s := by
  obtain ⟨⟨n, hn⟩⟩ := i
  interval_cases n <;> rfl

/-- The encoder and the step selector agree. -/
theorem encode_stepInstr (i : BitVec 6) : encode (stepInstr i) = .stepCounter i := by
  obtain ⟨⟨n, hn⟩⟩ := i
  interval_cases n <;> rfl

/-- A row whose encoding is a step counter value is the row that value selects. -/
theorem eq_stepInstr {x : Instr} {i : BitVec 6} (h : encode x = .stepCounter i) :
    x = stepInstr i := by
  cases x <;> simp [encode] at h <;> subst h <;> rfl

/-- The state after the step operation of row i. -/
def afterStep (i : BitVec 6) (s : State) : State :=
  if i = 63 then handOver .uChain { s with w := mixStep i s.m s.w, stepCtr := i + 1 }
  else { s with w := mixStep i s.m s.w, stepCtr := i + 1, upc := .uStep }

theorem stepOp_eq (i : BitVec 6) (s : State) : stepOp i s = .next (afterStep i s) := by
  unfold stepOp afterStep
  split <;> rfl

/-- A step before the last one. -/
theorem afterStep_of_ne {i : BitVec 6} (h : i ≠ 63) (s : State) :
    afterStep i s = { s with w := mixStep i s.m s.w, stepCtr := i + 1, upc := .uStep } := by
  unfold afterStep
  rw [if_neg h]

/-- The last step. -/
theorem afterStep_last (s : State) :
    afterStep 63 s = handOver .uChain { s with w := mixStep 63 s.m s.w, stepCtr := 0 } := rfl

end Sys2Proof.Machine
end

