-- ==== Sys2Proof/Laws/Engine.lean ====
section
/-! SUPPORT. Everything one engine event can do (10_state.md R40). -/

namespace Sys2Proof.Machine

/-- The state after one engine event, for every value of UPC. -/
def afterEngine (s : State) : State :=
  match s.upc with
  | .idle | .fault => s
  | .uNop => microNop s
  | .uInit => microInit s
  | .uRst => microRst s
  | .uChunk => microChunk s
  | .uLoadw => microLoadw s
  | .uStep => afterStep s.stepCtr s
  | .uChain => microChain s
  | .uSerial => microSerial s
  | .uHex => microHex s

/-- The engine never stops: each of its events is `afterEngine`. -/
theorem engineEvent_eq (s : State) : engineEvent s = .next (afterEngine s) := by
  unfold engineEvent afterEngine
  cases s.upc <;> simp [exec_stepInstr, stepOp_eq]

section byUpc

variable {s : State}

theorem afterEngine_idle (h : s.upc = .idle) : afterEngine s = s := by simp [afterEngine, h]
theorem afterEngine_fault (h : s.upc = .fault) : afterEngine s = s := by simp [afterEngine, h]
theorem afterEngine_uNop (h : s.upc = .uNop) : afterEngine s = microNop s := by
  simp [afterEngine, h]
theorem afterEngine_uInit (h : s.upc = .uInit) : afterEngine s = microInit s := by
  simp [afterEngine, h]
theorem afterEngine_uRst (h : s.upc = .uRst) : afterEngine s = microRst s := by
  simp [afterEngine, h]
theorem afterEngine_uChunk (h : s.upc = .uChunk) : afterEngine s = microChunk s := by
  simp [afterEngine, h]
theorem afterEngine_uLoadw (h : s.upc = .uLoadw) : afterEngine s = microLoadw s := by
  simp [afterEngine, h]
theorem afterEngine_uStep (h : s.upc = .uStep) : afterEngine s = afterStep s.stepCtr s := by
  simp [afterEngine, h]
theorem afterEngine_uChain (h : s.upc = .uChain) : afterEngine s = microChain s := by
  simp [afterEngine, h]
theorem afterEngine_uSerial (h : s.upc = .uSerial) : afterEngine s = microSerial s := by
  simp [afterEngine, h]
theorem afterEngine_uHex (h : s.upc = .uHex) : afterEngine s = microHex s := by
  simp [afterEngine, h]

end byUpc

/-- Every micro-operation: the fields it writes, each with its condition, and the frame. What is not
named here (LEN, MLEN, ERR, ERRCODE, MSG, the parameters, the agenda, the replies) no engine event
changes. -/
theorem afterEngine_frame (s : State) :
    ∃ (h w : Quad) (m : Vector Word 16) (dg : Vector Byte 16) (hx : Vector Byte 32)
      (nb bl : BitVec 56) (la dv : Bool) (st : BitVec 6) (u : UPC) (bs au : Bool),
      afterEngine s = { s with
        h := h, w := w, m := m, digest := dg, hex := hx, nblk := nb, blk := bl, last := la,
        dvalid := dv, stepCtr := st, upc := u, busy := bs, auto := au } ∧
      (h ≠ s.h → s.upc = .uInit ∨ s.upc = .uChain) ∧
      (w ≠ s.w → s.upc = .uLoadw ∨ s.upc = .uStep) ∧
      (m ≠ s.m → s.upc = .uChunk) ∧
      (dg ≠ s.digest → s.upc = .uSerial) ∧
      (hx ≠ s.hex → s.upc = .uHex) ∧
      (nb ≠ s.nblk → s.upc = .uRst) ∧
      (bl ≠ s.blk ∨ la ≠ s.last → s.upc = .uRst ∨ s.upc = .uChunk) ∧
      (st ≠ s.stepCtr → s.upc = .uStep) ∧
      (dv = if s.upc = .uSerial then true else if s.upc = .uInit then false else s.dvalid) ∧
      (u = .fault ↔ s.upc = .fault) := by
  have hh := fun u t => handOver_frame u t
  cases hu : s.upc
  case idle =>
    rw [afterEngine_idle hu]
    exact ⟨s.h, s.w, s.m, s.digest, s.hex, s.nblk, s.blk, s.last, s.dvalid, s.stepCtr, s.upc,
      s.busy, s.auto, rfl, by simp [hu]⟩
  case fault =>
    rw [afterEngine_fault hu]
    exact ⟨s.h, s.w, s.m, s.digest, s.hex, s.nblk, s.blk, s.last, s.dvalid, s.stepCtr, s.upc,
      s.busy, s.auto, rfl, by simp [hu]⟩
  case uNop =>
    rw [afterEngine_uNop hu]
    exact ⟨s.h, s.w, s.m, s.digest, s.hex, s.nblk, s.blk, s.last, s.dvalid, s.stepCtr, .idle,
      false, false, rfl, by simp⟩
  case uInit =>
    rw [afterEngine_uInit hu]
    unfold microInit handOver toIdle
    cases s.auto
    · exact ⟨_, _, _, _, _, _, _, _, _, _, _, _, _, rfl, by simp⟩
    · exact ⟨_, _, _, _, _, _, _, _, _, _, _, _, _, rfl, by simp⟩
  case uRst =>
    rw [afterEngine_uRst hu]
    unfold microRst handOver toIdle
    cases s.auto
    · exact ⟨_, _, _, _, _, _, _, _, _, _, _, _, _, rfl, by simp⟩
    · exact ⟨_, _, _, _, _, _, _, _, _, _, _, _, _, rfl, by simp⟩
  case uChunk =>
    rw [afterEngine_uChunk hu]
    unfold microChunk handOver toIdle
    cases s.auto
    · exact ⟨_, _, _, _, _, _, _, _, _, _, _, _, _, rfl, by simp⟩
    · exact ⟨_, _, _, _, _, _, _, _, _, _, _, _, _, rfl, by simp⟩
  case uLoadw =>
    rw [afterEngine_uLoadw hu]
    unfold microLoadw handOver toIdle
    cases s.auto
    · exact ⟨_, _, _, _, _, _, _, _, _, _, _, _, _, rfl, by simp⟩
    · exact ⟨_, _, _, _, _, _, _, _, _, _, _, _, _, rfl, by simp⟩
  case uStep =>
    rw [afterEngine_uStep hu]
    unfold afterStep handOver toIdle
    split
    · cases s.auto
      · exact ⟨_, _, _, _, _, _, _, _, _, _, _, _, _, rfl, by simp⟩
      · exact ⟨_, _, _, _, _, _, _, _, _, _, _, _, _, rfl, by simp⟩
    · exact ⟨_, _, _, _, _, _, _, _, _, _, _, _, _, rfl, by simp⟩
  case uChain =>
    rw [afterEngine_uChain hu]
    unfold microChain handOver toIdle
    cases s.auto
    · exact ⟨_, _, _, _, _, _, _, _, _, _, _, _, _, rfl, by simp⟩
    · refine ⟨_, _, _, _, _, _, _, _, _, _, _, _, _, rfl, ?_⟩
      cases s.last <;> simp
  case uSerial =>
    rw [afterEngine_uSerial hu]
    exact ⟨_, _, _, _, _, _, _, _, _, _, _, _, _, rfl, by simp⟩
  case uHex =>
    rw [afterEngine_uHex hu]
    exact ⟨_, _, _, _, _, _, _, _, _, _, _, _, _, rfl, by simp⟩

end Sys2Proof.Machine
end

