-- ==== Sys2Proof/Laws/Host.lean ====
section
/-! SUPPORT. Everything one host event can do, as one inversion lemma (44_formatter_and_system.md R196
to R199, 60_exceptions.md R215). -/

namespace Sys2Proof.Machine

/-- A command word is the number of its opcode: bits 31:8 are zero. -/
theorem eq_of_zeroField {v : Word} (h : zeroField v = 0) :
    v = BitVec.setWidth 32 (opcodeField v) := by
  apply BitVec.eq_of_toNat_eq
  have h2 : (zeroField v).toNat = 0 := by
    rw [h]
    rfl
  simp only [zeroField, opcodeField, BitVec.extractLsb'_toNat, BitVec.toNat_setWidth,
    Nat.shiftRight_eq_div_pow] at *
  have := v.isLt
  omega

/-- A word from which the CMD decoder reads an instruction is that instruction's encoding. -/
theorem encode_of_decodeCommand {v : Word} {i : Instr} (h : decodeCommand v = .ok i) :
    encode i = .cmdWord v := by
  unfold decodeCommand at h
  split at h
  · rename_i hz
    have hk := eq_of_zeroField hz
    revert hk h
    generalize opcodeField v = op
    intro h hk
    subst hk
    obtain ⟨⟨n, hn⟩⟩ := op
    by_cases h10 : n < 10
    · interval_cases n <;> (simp [decodeOpcode] at h; subst h; rfl)
    · have hnone : decodeOpcode (BitVec.ofFin ⟨n, hn⟩) = none := by
        unfold decodeOpcode
        split <;> first | rfl | (rename_i hh; simp at hh; omega)
      rw [hnone] at h
      cases h
  · cases h

/-- The effect of one host event. -/
inductive HostEffect (s : State) : HostEvent → State → Prop where
  /-- a register read -/
  | regRead (r : BitVec 6) : HostEffect s (.rd r) (answer (.word (regRead s r)) s)
  /-- a message read -/
  | msgRead (a : BitVec 61) : HostEffect s (.mr a) (answer (.byte (msgRead s a)) s)
  /-- a register write that is ignored or dropped -/
  | regIgnored (r : BitVec 6) (v : Word) (h : (r ≠ 0 ∧ r ≠ 2 ∧ r ≠ 3) ∨ s.err = true) :
      HostEffect s (.wr r v) s
  /-- a message write that is ignored or dropped -/
  | msgIgnored (a : BitVec 61) (b : Byte) (h : msgCap s ≤ a.toNat ∨ s.err = true) :
      HostEffect s (.mw a b) s
  /-- a register write that faults -/
  | regFaulted (r : BitVec 6) (v : Word) (f : LaneFault) (h : r = 0 ∨ r = 2 ∨ r = 3)
      (he : s.err = false) : HostEffect s (.wr r v) (raiseFault f s)
  /-- a message write that faults -/
  | msgFaulted (a : BitVec 61) (b : Byte) (h : a.toNat < msgCap s) (he : s.err = false)
      (hb : s.busy = true) : HostEffect s (.mw a b) (raiseFault .busy s)
  /-- LEN_LO written -/
  | lenLo (v : Word) (he : s.err = false) (hb : s.busy = false) :
      HostEffect s (.wr 2 v) (setLenLo v s)
  /-- LEN_HI written -/
  | lenHi (v : Word) (he : s.err = false) (hb : s.busy = false) :
      HostEffect s (.wr 3 v) (setLenHi v s)
  /-- a message byte written -/
  | msgStored (a : BitVec 61) (b : Byte) (h : a.toNat < msgCap s) (he : s.err = false)
      (hb : s.busy = false) : HostEffect s (.mw a b) (memWrite a.toNat b s)
  /-- a command that latches no length accepted -/
  | accepted (v : Word) (u : UPC) (he : s.err = false) (hb : s.busy = false)
      (hu : u = .uNop ∨ u = .uInit ∨ (u = .uChunk ∧ s.blk ≠ s.nblk) ∨ u = .uLoadw ∨ u = .uStep ∨
        u = .uChain ∨ u = .uSerial ∨ u = .uHex) :
      HostEffect s (.wr 0 v) (accept u false s)
  /-- CHKRST accepted -/
  | chkrst (he : s.err = false) (hb : s.busy = false) (hl : lenIllegal s = false) :
      HostEffect s (.wr 0 2) (accept .uRst false (latchLength s))
  /-- COMPUTE accepted -/
  | compute (he : s.err = false) (hb : s.busy = false) (hl : lenIllegal s = false) :
      HostEffect s (.wr 0 8) (accept .uInit true (latchLength s))
  /-- reset -/
  | reset : HostEffect s .reset (resetLane s)

/-- A guarded register write has one of the effects above, if its action has. -/
theorem guardWrite_effect {s : State} {r : BitVec 6} {v : Word} {act : State → State}
    (hr : r = 0 ∨ r = 2 ∨ r = 3)
    (h : s.err = false → s.busy = false → HostEffect s (.wr r v) (act s)) :
    HostEffect s (.wr r v) (guardWrite act s) := by
  rcases guardWrite_cases act s with ⟨h1, h2⟩ | ⟨h1, h2, h3⟩ | ⟨h1, h2, h3⟩
  · rw [h2]
    exact .regIgnored r v (.inr h1)
  · rw [h3]
    exact .regFaulted r v .busy hr h1
  · rw [h3]
    exact h h1 h2

/-- Acceptance with a length has one of the effects above. -/
theorem acceptWithLength_effect {s : State} {v : Word} {u : UPC} {au : Bool}
    (he : s.err = false)
    (h : lenIllegal s = false → HostEffect s (.wr 0 v) (accept u au (latchLength s))) :
    HostEffect s (.wr 0 v) (acceptWithLength u au s) := by
  cases hl : lenIllegal s
  · rw [acceptWithLength_legal u au hl]
    exact h hl
  · rw [acceptWithLength_illegal u au hl]
    exact .regFaulted 0 v .len (.inl rfl) he

/-- A decoded command, executed, answers and does one of the above. -/
theorem exec_effect {i : Instr} {v : Word} (h : encode i = .cmdWord v) (s : State) :
    ∃ t, exec i s = .next t ∧ HostEffect s (.wr 0 v) t := by
  have plain {u : UPC} (hu : u = .uNop ∨ u = .uInit ∨ (u = .uChunk ∧ s.blk ≠ s.nblk) ∨
      u = .uLoadw ∨ u = .uStep ∨ u = .uChain ∨ u = .uSerial ∨ u = .uHex) :
      HostEffect s (.wr 0 v) (guardWrite (accept u false) s) :=
    guardWrite_effect (.inl rfl) fun he hb => .accepted v u he hb hu
  cases i <;> cases h
  case chkrst =>
    exact ⟨_, rfl, guardWrite_effect (.inl rfl) fun he hb =>
      acceptWithLength_effect he fun hl => .chkrst he hb hl⟩
  case compute =>
    exact ⟨_, rfl, guardWrite_effect (.inl rfl) fun he hb =>
      acceptWithLength_effect he fun hl => .compute he hb hl⟩
  case chknxt =>
    refine ⟨_, rfl, guardWrite_effect (.inl rfl) fun he hb => ?_⟩
    split
    · exact .regFaulted 0 _ .seq (.inl rfl) he
    · rename_i hc
      exact .accepted _ _ he hb (by simpa [chkdone] using hc)
  all_goals exact ⟨_, rfl, plain (by simp)⟩

/-- A write to CMD answers, and does one of the above. -/
theorem cmdWrite_effect (v : Word) (s : State) :
    ∃ t, cmdWrite v s = .next t ∧ HostEffect s (.wr 0 v) t := by
  unfold cmdWrite
  split
  · rename_i i hd
    exact exec_effect (encode_of_decodeCommand hd) s
  · exact ⟨_, rfl, guardWrite_effect (.inl rfl) fun he _ => .regFaulted 0 v .illCmd (.inl rfl) he⟩

/-- Every host event answers, and does one of the above. -/
theorem hostEvent_effect (e : HostEvent) (s : State) :
    ∃ t, hostEvent e s = .next t ∧ HostEffect s e t := by
  cases e with
  | rd r => exact ⟨_, rfl, .regRead r⟩
  | mr a => exact ⟨_, rfl, .msgRead a⟩
  | reset => exact ⟨_, rfl, .reset⟩
  | mw a b =>
    refine ⟨_, rfl, ?_⟩
    unfold msgWrite
    split
    · rename_i ha
      rcases guardWrite_cases (memWrite a.toNat b) s with ⟨h1, h2⟩ | ⟨h1, h2, h3⟩ | ⟨h1, h2, h3⟩
      · rw [h2]
        exact .msgIgnored a b (.inr h1)
      · rw [h3]
        exact .msgFaulted a b ha h1 h2
      · rw [h3]
        exact .msgStored a b ha h1 h2
    · rename_i ha
      exact .msgIgnored a b (.inl (Nat.le_of_not_lt ha))
  | wr r v =>
    show ∃ t, regWrite r v s = .next t ∧ _
    unfold regWrite
    split
    · rename_i h0
      subst h0
      exact cmdWrite_effect v s
    · split
      · rename_i h0 h2
        subst h2
        exact ⟨_, rfl, guardWrite_effect (.inr (.inl rfl)) fun he hb => .lenLo v he hb⟩
      · split
        · rename_i h0 h2 h3
          subst h3
          exact ⟨_, rfl, guardWrite_effect (.inr (.inr rfl)) fun he hb => .lenHi v he hb⟩
        · rename_i h0 h2 h3
          exact ⟨_, rfl, .regIgnored r v (.inl ⟨h0, h2, h3⟩)⟩

end Sys2Proof.Machine
end

