-- ==== Sys2Proof/Laws/PerInstr.lean ====
section
/-! SUPPORT. Statements about every instruction as syntax, one lemma per constructor. -/

namespace Sys2Proof.Laws

/-- RoundTrip: the decoder reads an instruction back from its own encoding (30_encoding.md R98). -/
def RoundTrip.Statement (i : Instr) : Prop := decode (encode i) = .ok i

theorem RoundTrip.nop : RoundTrip.Statement .nop := rfl
theorem RoundTrip.init : RoundTrip.Statement .init := rfl
theorem RoundTrip.chkrst : RoundTrip.Statement .chkrst := rfl
theorem RoundTrip.chknxt : RoundTrip.Statement .chknxt := rfl
theorem RoundTrip.loadw : RoundTrip.Statement .loadw := rfl
theorem RoundTrip.round : RoundTrip.Statement .round := rfl
theorem RoundTrip.chain : RoundTrip.Statement .chain := rfl
theorem RoundTrip.serial : RoundTrip.Statement .serial := rfl
theorem RoundTrip.compute : RoundTrip.Statement .compute := rfl
theorem RoundTrip.hexfmt : RoundTrip.Statement .hexfmt := rfl
theorem RoundTrip.ustep0 : RoundTrip.Statement .ustep0 := rfl
theorem RoundTrip.ustep1 : RoundTrip.Statement .ustep1 := rfl
theorem RoundTrip.ustep2 : RoundTrip.Statement .ustep2 := rfl
theorem RoundTrip.ustep3 : RoundTrip.Statement .ustep3 := rfl
theorem RoundTrip.ustep4 : RoundTrip.Statement .ustep4 := rfl
theorem RoundTrip.ustep5 : RoundTrip.Statement .ustep5 := rfl
theorem RoundTrip.ustep6 : RoundTrip.Statement .ustep6 := rfl
theorem RoundTrip.ustep7 : RoundTrip.Statement .ustep7 := rfl
theorem RoundTrip.ustep8 : RoundTrip.Statement .ustep8 := rfl
theorem RoundTrip.ustep9 : RoundTrip.Statement .ustep9 := rfl
theorem RoundTrip.ustep10 : RoundTrip.Statement .ustep10 := rfl
theorem RoundTrip.ustep11 : RoundTrip.Statement .ustep11 := rfl
theorem RoundTrip.ustep12 : RoundTrip.Statement .ustep12 := rfl
theorem RoundTrip.ustep13 : RoundTrip.Statement .ustep13 := rfl
theorem RoundTrip.ustep14 : RoundTrip.Statement .ustep14 := rfl
theorem RoundTrip.ustep15 : RoundTrip.Statement .ustep15 := rfl
theorem RoundTrip.ustep16 : RoundTrip.Statement .ustep16 := rfl
theorem RoundTrip.ustep17 : RoundTrip.Statement .ustep17 := rfl
theorem RoundTrip.ustep18 : RoundTrip.Statement .ustep18 := rfl
theorem RoundTrip.ustep19 : RoundTrip.Statement .ustep19 := rfl
theorem RoundTrip.ustep20 : RoundTrip.Statement .ustep20 := rfl
theorem RoundTrip.ustep21 : RoundTrip.Statement .ustep21 := rfl
theorem RoundTrip.ustep22 : RoundTrip.Statement .ustep22 := rfl
theorem RoundTrip.ustep23 : RoundTrip.Statement .ustep23 := rfl
theorem RoundTrip.ustep24 : RoundTrip.Statement .ustep24 := rfl
theorem RoundTrip.ustep25 : RoundTrip.Statement .ustep25 := rfl
theorem RoundTrip.ustep26 : RoundTrip.Statement .ustep26 := rfl
theorem RoundTrip.ustep27 : RoundTrip.Statement .ustep27 := rfl
theorem RoundTrip.ustep28 : RoundTrip.Statement .ustep28 := rfl
theorem RoundTrip.ustep29 : RoundTrip.Statement .ustep29 := rfl
theorem RoundTrip.ustep30 : RoundTrip.Statement .ustep30 := rfl
theorem RoundTrip.ustep31 : RoundTrip.Statement .ustep31 := rfl
theorem RoundTrip.ustep32 : RoundTrip.Statement .ustep32 := rfl
theorem RoundTrip.ustep33 : RoundTrip.Statement .ustep33 := rfl
theorem RoundTrip.ustep34 : RoundTrip.Statement .ustep34 := rfl
theorem RoundTrip.ustep35 : RoundTrip.Statement .ustep35 := rfl
theorem RoundTrip.ustep36 : RoundTrip.Statement .ustep36 := rfl
theorem RoundTrip.ustep37 : RoundTrip.Statement .ustep37 := rfl
theorem RoundTrip.ustep38 : RoundTrip.Statement .ustep38 := rfl
theorem RoundTrip.ustep39 : RoundTrip.Statement .ustep39 := rfl
theorem RoundTrip.ustep40 : RoundTrip.Statement .ustep40 := rfl
theorem RoundTrip.ustep41 : RoundTrip.Statement .ustep41 := rfl
theorem RoundTrip.ustep42 : RoundTrip.Statement .ustep42 := rfl
theorem RoundTrip.ustep43 : RoundTrip.Statement .ustep43 := rfl
theorem RoundTrip.ustep44 : RoundTrip.Statement .ustep44 := rfl
theorem RoundTrip.ustep45 : RoundTrip.Statement .ustep45 := rfl
theorem RoundTrip.ustep46 : RoundTrip.Statement .ustep46 := rfl
theorem RoundTrip.ustep47 : RoundTrip.Statement .ustep47 := rfl
theorem RoundTrip.ustep48 : RoundTrip.Statement .ustep48 := rfl
theorem RoundTrip.ustep49 : RoundTrip.Statement .ustep49 := rfl
theorem RoundTrip.ustep50 : RoundTrip.Statement .ustep50 := rfl
theorem RoundTrip.ustep51 : RoundTrip.Statement .ustep51 := rfl
theorem RoundTrip.ustep52 : RoundTrip.Statement .ustep52 := rfl
theorem RoundTrip.ustep53 : RoundTrip.Statement .ustep53 := rfl
theorem RoundTrip.ustep54 : RoundTrip.Statement .ustep54 := rfl
theorem RoundTrip.ustep55 : RoundTrip.Statement .ustep55 := rfl
theorem RoundTrip.ustep56 : RoundTrip.Statement .ustep56 := rfl
theorem RoundTrip.ustep57 : RoundTrip.Statement .ustep57 := rfl
theorem RoundTrip.ustep58 : RoundTrip.Statement .ustep58 := rfl
theorem RoundTrip.ustep59 : RoundTrip.Statement .ustep59 := rfl
theorem RoundTrip.ustep60 : RoundTrip.Statement .ustep60 := rfl
theorem RoundTrip.ustep61 : RoundTrip.Statement .ustep61 := rfl
theorem RoundTrip.ustep62 : RoundTrip.Statement .ustep62 := rfl
theorem RoundTrip.ustep63 : RoundTrip.Statement .ustep63 := rfl

end Sys2Proof.Laws
end

