-- ==== Sys2Proof/Laws/Step.lean ====
section
/-! SUPPORT. The unfolding of one step, and how runs of steps compose. -/

namespace Sys2Proof.Machine

/-- Every command answers a next state, in every state. -/
theorem exec_command (i : Instr) (v : Word) (h : encode i = .cmdWord v) (s : State) :
    ∃ act : State → State, exec i s = .next (guardWrite act s) := by
  cases i <;> first | exact ⟨_, rfl⟩ | simp [encode] at h

theorem step_idle_agenda {s : State} (h : s.agenda = []) :
    step s = .next (afterEngine s) := by
  simp [step, h, engineEvent_eq]

theorem step_engine {s : State} {rest : List Event} (h : s.agenda = .engine :: rest) :
    step s = .next (afterEngine { s with agenda := rest }) := by
  simp [step, h, runEvent, engineEvent_eq]

theorem step_host {s : State} {e : HostEvent} {rest : List Event}
    (h : s.agenda = .host e :: rest) : step s = hostEvent e { s with agenda := rest } := by
  simp [step, h, runEvent]

theorem step_wait {s : State} {rest : List Event} (h : s.agenda = .wait :: rest) :
    step s = .next (waitEvent { s with agenda := rest }) := by
  simp [step, h, runEvent]

/-- A WAIT writes the agenda and the replies only. -/
theorem waitEvent_frame (s : State) :
    ∃ ag rp, waitEvent s = { s with agenda := ag, replies := rp } := by
  unfold waitEvent
  dsimp only
  split
  · exact ⟨_, _, rfl⟩
  · exact ⟨_, _, rfl⟩

/-- An engine event neither reads nor writes the agenda and the replies. -/
theorem afterEngine_agenda (s : State) (ag : List Event) (rp : List Reply) :
    afterEngine { s with agenda := ag, replies := rp } =
      { afterEngine s with agenda := ag, replies := rp } := by
  cases hu : s.upc <;> simp only [afterEngine, hu]
  all_goals simp only [microNop, microInit, microRst, microLoadw, microChain, microSerial,
    microChunk, microHex, handOver, toIdle, afterStep]
  all_goals first | rfl | (split <;> first | rfl | (split <;> rfl))

/-- Everything one step can do: an engine event, a host event with one of its effects, or a WAIT. -/
theorem step_cases {s t : State} (h : step s = .next t) :
    (nextEvent s = .engine ∧ ∃ ag, t = afterEngine { s with agenda := ag } ∧
      (s.agenda = [] ∧ ag = [] ∨ s.agenda = .engine :: ag)) ∨
    (∃ e rest, s.agenda = .host e :: rest ∧ nextEvent s = .host e ∧
      HostEffect { s with agenda := rest } e t) ∨
    (∃ rest, s.agenda = .wait :: rest ∧ nextEvent s = .wait ∧
      t = waitEvent { s with agenda := rest }) := by
  cases ha : s.agenda with
  | nil =>
    rw [step_idle_agenda ha] at h
    cases h
    refine .inl ⟨by simp [nextEvent, ha], [], ?_, by simp⟩
    rw [← ha]
  | cons e rest =>
    cases e with
    | engine =>
      rw [step_engine ha] at h
      cases h
      exact .inl ⟨by simp [nextEvent, ha], rest, rfl, by simp⟩
    | wait =>
      rw [step_wait ha] at h
      cases h
      exact .inr (.inr ⟨rest, rfl, by simp [nextEvent, ha], rfl⟩)
    | host e =>
      rw [step_host ha] at h
      obtain ⟨t', h1, h2⟩ := hostEvent_effect e { s with agenda := rest }
      rw [h1] at h
      cases h
      exact .inr (.inl ⟨e, rest, rfl, by simp [nextEvent, ha], h2⟩)

@[simp] theorem runSteps_zero (s : State) : runSteps 0 s = .next s := rfl

/-- Running one more step. -/
theorem runSteps_succ {n : Nat} {s t : State} (h : step s = .next t) :
    runSteps (n + 1) s = runSteps n t := by
  simp [runSteps, h]

/-- Every step answers: the machine has no fault and refuses nothing. -/
theorem outcome_next_of_ne {o : Host.Outcome State Fault Refusal}
    (h : ∀ r, o ≠ .refused r) : ∃ t, o = .next t := by
  cases o with
  | next t => exact ⟨t, rfl⟩
  | fault r => exact nomatch r
  | refused r => exact absurd rfl (h r)

/-- Runs compose. -/
theorem runSteps_add {m n : Nat} {s t : State} (h : runSteps m s = .next t) :
    runSteps (m + n) s = runSteps n t := by
  induction m generalizing s with
  | zero =>
    cases h
    simp
  | succ m ih =>
    cases hs : step s with
    | next u =>
      rw [runSteps_succ hs] at h
      rw [show m + 1 + n = (m + n) + 1 by omega, runSteps_succ hs]
      exact ih h
    | fault r => exact nomatch r
    | refused r => simp [runSteps, hs] at h

/-- The runs of the host's interface are the model's. -/
theorem core_run_eq (n : Nat) (s : State) : core.run n s = runSteps n s := by
  induction n generalizing s with
  | zero => rfl
  | succ n ih =>
    have e : core.step s = step s := rfl
    simp only [Host.Core.run, runSteps]
    rw [e]
    cases step s with
    | next t => exact ih t
    | fault r => rfl
    | refused r => rfl

end Sys2Proof.Machine
end

