-- ==== Sys2Proof/Tests/Slice0.lean ====
section
/-! SUPPORT. The model's own tests. Expected values are the spec's: the encodings of 30_encoding.md, the
table of 40_constant_tables.md, the vectors V-… of 95_test_vectors.md and the examples in the rules.
`test_…` checks the model; `witness_…` shows a concrete state and operands that meet the hypotheses of
the obligation it is named after. -/

namespace Sys2Proof.Tests

open Sys2Proof Sys2Proof.Machine

/-! ### Helpers -/

/-- The next state, if there is one. -/
def nextOf (o : Host.Outcome State Fault Refusal) : Option State :=
  match o with
  | .next t => some t
  | .fault _ | .refused _ => none

/-- A lane right after reset with a given capacity. -/
def lane (cap : Fin (2 ^ 61)) : State := { State.reset with params := ⟨cap⟩ }

/-- A lane of capacity 1024 with the message "abc" in MSG and LEN = 3. -/
def abcLane : State :=
  { lane 1024 with msg := [(0, 0x61), (1, 0x62), (2, 0x63)], len := 3 }

/-- A lane about to perform one micro-operation of a command issued on its own. -/
def running (u : UPC) : State := { lane 1024 with upc := u, busy := true }

/-- A faulted lane (E_ILLCMD, 60_exceptions.md R216) with a given agenda. -/
def faulted (ag : List Event) : State :=
  { lane 1024 with err := true, errCode := 1, upc := .fault, agenda := ag }

/-- The block of the empty message: M[0] = 0x80 (V-CHK-1). -/
def emptyBlock : Vector Word 16 := (Vector.replicate 16 0).set 0 0x80

/-- STATUS after an event of the host. -/
def statusAfter (e : HostEvent) (s : State) : Option Word := (nextOf (hostEvent e s)).map status

/-! ### Well-formedness: an ill-formed word for each check (30_encoding.md R90, R94) -/

theorem test_zeroField_refuses : WellFormed.zeroFieldOk 0x00000101 = false := by decide
theorem test_opcode_refuses : WellFormed.opcodeOk 0x0000000a = false := by decide
theorem test_commandWord_refuses :
    WellFormed.commandWord 0x00000101 = false ∧ WellFormed.commandWord 0x0000000a = false ∧
    WellFormed.commandWord 0xffffffff = false ∧ WellFormed.commandWord 0x00000009 = true := by
  decide

/-! ### Decoding: words written out bit by bit from R90, R91 and R98 -/

/-- ZERO = 24 zero bits, then OPCODE (R91), for every command. -/
theorem test_decode_commands :
    [0b00000000000000000000000000000000#32,
      0b00000000000000000000000000000001#32,
      0b00000000000000000000000000000010#32,
      0b00000000000000000000000000000011#32,
      0b00000000000000000000000000000100#32,
      0b00000000000000000000000000000101#32,
      0b00000000000000000000000000000110#32,
      0b00000000000000000000000000000111#32,
      0b00000000000000000000000000001000#32,
      0b00000000000000000000000000001001#32].map (fun v => (decode (.cmdWord v)).toOption) =
    [some .nop, some .init, some .chkrst, some .chknxt, some .loadw,
      some .round, some .chain, some .serial, some .compute, some .hexfmt] := by decide

/-- STEP in six bits selects the row of the same number (R93, R98), quartile 0. -/
theorem test_decode_steps_q0 :
    [0b000000#6, 0b000001#6, 0b000010#6, 0b000011#6, 0b000100#6, 0b000101#6, 0b000110#6, 0b000111#6,
      0b001000#6, 0b001001#6, 0b001010#6, 0b001011#6, 0b001100#6, 0b001101#6, 0b001110#6, 0b001111#6].map
        (fun i => (decode (.stepCounter i)).toOption) =
    [some .ustep0, some .ustep1, some .ustep2, some .ustep3, some .ustep4, some .ustep5,
      some .ustep6, some .ustep7, some .ustep8, some .ustep9, some .ustep10, some .ustep11,
      some .ustep12, some .ustep13, some .ustep14, some .ustep15] := by decide

/-- STEP in six bits selects the row of the same number (R93, R98), quartile 1. -/
theorem test_decode_steps_q1 :
    [0b010000#6, 0b010001#6, 0b010010#6, 0b010011#6, 0b010100#6, 0b010101#6, 0b010110#6, 0b010111#6,
      0b011000#6, 0b011001#6, 0b011010#6, 0b011011#6, 0b011100#6, 0b011101#6, 0b011110#6, 0b011111#6].map
        (fun i => (decode (.stepCounter i)).toOption) =
    [some .ustep16, some .ustep17, some .ustep18, some .ustep19, some .ustep20, some .ustep21,
      some .ustep22, some .ustep23, some .ustep24, some .ustep25, some .ustep26, some .ustep27,
      some .ustep28, some .ustep29, some .ustep30, some .ustep31] := by decide

/-- STEP in six bits selects the row of the same number (R93, R98), quartile 2. -/
theorem test_decode_steps_q2 :
    [0b100000#6, 0b100001#6, 0b100010#6, 0b100011#6, 0b100100#6, 0b100101#6, 0b100110#6, 0b100111#6,
      0b101000#6, 0b101001#6, 0b101010#6, 0b101011#6, 0b101100#6, 0b101101#6, 0b101110#6, 0b101111#6].map
        (fun i => (decode (.stepCounter i)).toOption) =
    [some .ustep32, some .ustep33, some .ustep34, some .ustep35, some .ustep36, some .ustep37,
      some .ustep38, some .ustep39, some .ustep40, some .ustep41, some .ustep42, some .ustep43,
      some .ustep44, some .ustep45, some .ustep46, some .ustep47] := by decide

/-- STEP in six bits selects the row of the same number (R93, R98), quartile 3. -/
theorem test_decode_steps_q3 :
    [0b110000#6, 0b110001#6, 0b110010#6, 0b110011#6, 0b110100#6, 0b110101#6, 0b110110#6, 0b110111#6,
      0b111000#6, 0b111001#6, 0b111010#6, 0b111011#6, 0b111100#6, 0b111101#6, 0b111110#6, 0b111111#6].map
        (fun i => (decode (.stepCounter i)).toOption) =
    [some .ustep48, some .ustep49, some .ustep50, some .ustep51, some .ustep52, some .ustep53,
      some .ustep54, some .ustep55, some .ustep56, some .ustep57, some .ustep58, some .ustep59,
      some .ustep60, some .ustep61, some .ustep62, some .ustep63] := by decide

/-- R94: the neighbours of the opcode map are illegal, each by its reason. -/
theorem test_decode_illegal :
    decode (.cmdWord 0b00000000000000000000000000001010#32) = .error .opcodeUndefined ∧
    decode (.cmdWord 0b00000000000000000000000011111111#32) = .error .opcodeUndefined ∧
    decode (.cmdWord 0b00000000000000000000000100000000#32) = .error .zeroFieldNotZero ∧
    decode (.cmdWord 0b10000000000000000000000000001000#32) = .error .zeroFieldNotZero := by decide

/-- The table's view (30_encoding.md R98): 32 bits are a command word, 8 bits a step counter value. -/
theorem test_decodeTableWord :
    decodeTableWord 32 8 = some .compute ∧ decodeTableWord 32 10 = none ∧
    decodeTableWord 8 8 = some .ustep8 ∧ decodeTableWord 8 63 = some .ustep63 := by decide

/-! ### The constant tables: q, g, s and k of every row (40_constant_tables.md R113) -/

/-- The derived fields of a row (R93). -/
def rowFields (i : BitVec 6) : Nat × Nat × Nat × Word :=
  (quartile i, wordIndex i, rotateAmount i, additiveConstant i)

theorem test_rows_q0 :
    (List.range 16).map (fun j => rowFields (BitVec.ofNat 6 (0 + j))) =
    [(0, 0, 7, 0xd76aa478), (0, 1, 12, 0xe8c7b756), (0, 2, 17, 0x242070db),
      (0, 3, 22, 0xc1bdceee), (0, 4, 7, 0xf57c0faf), (0, 5, 12, 0x4787c62a),
      (0, 6, 17, 0xa8304613), (0, 7, 22, 0xfd469501), (0, 8, 7, 0x698098d8),
      (0, 9, 12, 0x8b44f7af), (0, 10, 17, 0xffff5bb1), (0, 11, 22, 0x895cd7be),
      (0, 12, 7, 0x6b901122), (0, 13, 12, 0xfd987193), (0, 14, 17, 0xa679438e),
      (0, 15, 22, 0x49b40821)] := by decide +kernel

theorem test_rows_q1 :
    (List.range 16).map (fun j => rowFields (BitVec.ofNat 6 (16 + j))) =
    [(1, 1, 5, 0xf61e2562), (1, 6, 9, 0xc040b340), (1, 11, 14, 0x265e5a51),
      (1, 0, 20, 0xe9b6c7aa), (1, 5, 5, 0xd62f105d), (1, 10, 9, 0x02441453),
      (1, 15, 14, 0xd8a1e681), (1, 4, 20, 0xe7d3fbc8), (1, 9, 5, 0x21e1cde6),
      (1, 14, 9, 0xc33707d6), (1, 3, 14, 0xf4d50d87), (1, 8, 20, 0x455a14ed),
      (1, 13, 5, 0xa9e3e905), (1, 2, 9, 0xfcefa3f8), (1, 7, 14, 0x676f02d9),
      (1, 12, 20, 0x8d2a4c8a)] := by decide +kernel

theorem test_rows_q2 :
    (List.range 16).map (fun j => rowFields (BitVec.ofNat 6 (32 + j))) =
    [(2, 5, 4, 0xfffa3942), (2, 8, 11, 0x8771f681), (2, 11, 16, 0x6d9d6122),
      (2, 14, 23, 0xfde5380c), (2, 1, 4, 0xa4beea44), (2, 4, 11, 0x4bdecfa9),
      (2, 7, 16, 0xf6bb4b60), (2, 10, 23, 0xbebfbc70), (2, 13, 4, 0x289b7ec6),
      (2, 0, 11, 0xeaa127fa), (2, 3, 16, 0xd4ef3085), (2, 6, 23, 0x04881d05),
      (2, 9, 4, 0xd9d4d039), (2, 12, 11, 0xe6db99e5), (2, 15, 16, 0x1fa27cf8),
      (2, 2, 23, 0xc4ac5665)] := by decide +kernel

theorem test_rows_q3 :
    (List.range 16).map (fun j => rowFields (BitVec.ofNat 6 (48 + j))) =
    [(3, 0, 6, 0xf4292244), (3, 7, 10, 0x432aff97), (3, 14, 15, 0xab9423a7),
      (3, 5, 21, 0xfc93a039), (3, 12, 6, 0x655b59c3), (3, 3, 10, 0x8f0ccc92),
      (3, 10, 15, 0xffeff47d), (3, 1, 21, 0x85845dd1), (3, 8, 6, 0x6fa87e4f),
      (3, 15, 10, 0xfe2ce6e0), (3, 6, 15, 0xa3014314), (3, 13, 21, 0x4e0811a1),
      (3, 4, 6, 0xf7537e82), (3, 11, 10, 0xbd3af235), (3, 2, 15, 0x2ad7d2bb),
      (3, 9, 21, 0xeb86d391)] := by decide +kernel

/-- V-TAB-7 and V-TAB-8: the checksums of K. -/
theorem test_k_checksums :
    kTable.toList.foldl (· + ·) 0 = 0x27f3a0bc ∧ kTable.toList.foldl (· ^^^ ·) 0 = 0x10e6cc5a := by
  decide +kernel

/-- V-TAB-9. -/
theorem test_hexChar :
    [0, 9, 10, 15].map hexChar = [0x30, 0x39, 0x61, 0x66] := by decide

/-! ### Primitives (V-PRM, V-FUN) -/

theorem test_rotl32 :
    rotl32 0x80000000 7 = 0x00000040 ∧ rotl32 0x00000001 23 = 0x00800000 ∧
    rotl32 0xd76aa4f7 7 = 0xb5527beb ∧ rotl32 0x12345678 16 = 0x56781234 ∧
    rotl32 0x12345678 4 = 0x23456781 ∧ rotl32 0xffffffff 21 = 0xffffffff := by decide

theorem test_bytes :
    le32 0x61 0x62 0x63 0x80 = 0x80636261 ∧ byteOf 0 0xd98c1dd4 = 0xd4 ∧
    byteOf 3 0xd98c1dd4 = 0xd9 := by decide

/-- V-FUN-1, V-FUN-2, V-FUN-3 and V-FUN-6. -/
theorem test_step_functions :
    [f0, f1, f2, f3].map (fun f => f 0xffffffff 0x12345678 0x9abcdef0) =
      [0x12345678, 0x9abcdef8, 0x77777777, 0xedcba987] ∧
    [f0, f1, f2, f3].map (fun f => f 0 0x12345678 0x9abcdef0) =
      [0x9abcdef0, 0x00000008, 0x88888888, 0x77777777] ∧
    [f0, f1, f2, f3].map (fun f => f 0 0 0) = [0, 0, 0, 0xffffffff] ∧
    [f0, f1, f2, f3].map (fun f => f 0xefcdab89 0x98badcfe 0x10325476) =
      [0x98badcfe, 0x88888888, 0x67452301, 0x77777777] := by decide

/-! ### Single steps (V-STP): W after the row, from W before it -/

/-- W and STEP after executing a row. -/
def rowResult (x : Instr) (m : Vector Word 16) (w : Quad) : Option (Quad × BitVec 6) :=
  (nextOf (exec x { running .uStep with m := m, w := w })).map fun t => (t.w, t.stepCtr)

/-- V-STP-1. -/
theorem test_first_step :
    rowResult .ustep0 emptyBlock ⟨0x67452301, 0xefcdab89, 0x98badcfe, 0x10325476⟩ =
      some (⟨0x10325476, 0xa5202774, 0xefcdab89, 0x98badcfe⟩, 1) := by decide +kernel

/-- V-STP-5. -/
theorem test_step_15 :
    rowResult .ustep15 emptyBlock ⟨0x70768a29, 0x5aa53f75, 0x374943a7, 0xf56c7cf1⟩ =
      some (⟨0xf56c7cf1, 0xd6819c6a, 0x5aa53f75, 0x374943a7⟩, 16) := by decide +kernel

/-- V-STP-6. -/
theorem test_step_16 :
    rowResult .ustep16 emptyBlock ⟨0xf56c7cf1, 0xd6819c6a, 0x5aa53f75, 0x374943a7⟩ =
      some (⟨0x374943a7, 0x1c7d7513, 0xd6819c6a, 0x5aa53f75⟩, 17) := by decide +kernel

/-- V-STP-8. -/
theorem test_step_31 :
    rowResult .ustep31 emptyBlock ⟨0xa0572807, 0x1c31c384, 0xae7813db, 0x13707036⟩ =
      some (⟨0x13707036, 0xa2205f1f, 0x1c31c384, 0xae7813db⟩, 32) := by decide +kernel

/-- V-STP-9. -/
theorem test_step_32 :
    rowResult .ustep32 emptyBlock ⟨0x13707036, 0xa2205f1f, 0x1c31c384, 0xae7813db⟩ =
      some (⟨0xae7813db, 0xdf63eaa1, 0xa2205f1f, 0x1c31c384⟩, 33) := by decide +kernel

/-- V-STP-11. -/
theorem test_step_47 :
    rowResult .ustep47 emptyBlock ⟨0x0fe32453, 0x68d84ea2, 0x22a31f54, 0x3f55edfd⟩ =
      some (⟨0x3f55edfd, 0xca7d2dbd, 0x68d84ea2, 0x22a31f54⟩, 48) := by decide +kernel

/-- V-STP-12. -/
theorem test_step_48 :
    rowResult .ustep48 emptyBlock ⟨0x3f55edfd, 0xca7d2dbd, 0x68d84ea2, 0x22a31f54⟩ =
      some (⟨0x22a31f54, 0x93aa2577, 0xca7d2dbd, 0x68d84ea2⟩, 49) := by decide +kernel

/-- V-STP-15. -/
theorem test_last_step_wraps :
    rowResult .ustep63 emptyBlock ⟨0x30130182, 0xff4ea3eb, 0x6e10a476, 0x7246fad3⟩ =
      some (⟨0x7246fad3, 0x14e45506, 0xff4ea3eb, 0x6e10a476⟩, 0) := by decide +kernel

/-- V-STP-18. -/
theorem test_step_uses_M :
    rowResult .ustep0 ((Vector.replicate 16 0).set 0 0x80636261 |>.set 14 0x18) ⟨0x67452301, 0xefcdab89, 0x98badcfe, 0x10325476⟩ =
      some (⟨0x10325476, 0xd6d117b4, 0xefcdab89, 0x98badcfe⟩, 1) := by decide +kernel

/-- V-STP-19. -/
theorem test_step_48_complement :
    rowResult .ustep48 (Vector.replicate 16 0) ⟨0x00000000, 0x00000000, 0x00000000, 0x00000000⟩ =
      some (⟨0x00000000, 0x0a4890fd, 0x00000000, 0x00000000⟩, 49) := by decide +kernel

/-- R40: after step 63 a ROUND on its own is idle again, under AUTO the next is U_CHAIN. -/
theorem test_ustep63_successor :
    (nextOf (exec .ustep63 (running .uStep))).map (fun t => (t.upc, t.busy)) =
      some (.idle, false) ∧
    (nextOf (exec .ustep63 { running .uStep with auto := true })).map (fun t => (t.upc, t.busy)) =
      some (.uChain, true) := by decide +kernel

/-- R152: 64 steps on M = 0 from W = 0, and on the empty message's block from the IV. -/
theorem test_compress :
    compress (Vector.replicate 16 0) Quad.zero =
      ⟨0xf7cd1c97, 0xa5483681, 0x2b68d832, 0xf90ca639⟩ ∧
    compress emptyBlock iv = ⟨0x7246fad3, 0x14e45506, 0xff4ea3eb, 0x6e10a476⟩ := by
  decide +kernel

/-- V-KAT-1 and V-KAT-3: the digests of "" and "abc". -/
theorem test_known_digests :
    (md5 0 fun _ => 0).toList = [0xd4, 0x1d, 0x8c, 0xd9, 0x8f, 0x00, 0xb2, 0x04,
      0xe9, 0x80, 0x09, 0x98, 0xec, 0xf8, 0x42, 0x7e] ∧
    (md5 3 fun p => BitVec.ofNat 8 (0x61 + p)).toList = [0x90, 0x01, 0x50, 0x98, 0x3c, 0xd2, 0x4f,
      0xb0, 0xd6, 0x96, 0x3f, 0x7d, 0x28, 0xe1, 0x7f, 0x72] := by decide +kernel

/-! ### The commands, at acceptance (44_formatter_and_system.md R197) -/

/-- MLEN, AUTO, UPC and BUSY after acceptance. -/
def accepted (i : Instr) (s : State) : Option (Nat × Bool × UPC × Bool) :=
  (nextOf (exec i s)).map fun t => (t.mlen.toNat, t.auto, t.upc, t.busy)

theorem test_accept :
    [Instr.nop, .init, .loadw, .round, .chain, .serial, .hexfmt].map (accepted · abcLane) =
      [some (0, false, .uNop, true), some (0, false, .uInit, true),
        some (0, false, .uLoadw, true), some (0, false, .uStep, true),
        some (0, false, .uChain, true), some (0, false, .uSerial, true),
        some (0, false, .uHex, true)] := by decide

theorem test_accept_latches_length :
    accepted .chkrst abcLane = some (3, false, .uRst, true) ∧
    accepted .compute abcLane = some (3, true, .uInit, true) := by decide

theorem test_accept_chknxt :
    accepted .chknxt { abcLane with nblk := 1 } = some (0, false, .uChunk, true) := by decide

/-- V-FLT-9: a STATUS read right after COMPUTE was accepted (LEN = MSG_CAP = 16). -/
theorem test_status_right_after_compute :
    (nextOf (exec .compute { lane 16 with len := 16 })).map status = some 0x00000009 := by decide

/-! ### The micro-operations -/

/-- R170: the constants; DVALID is cleared. -/
theorem test_uInit :
    (nextOf (engineEvent { running .uInit with dvalid := true })).map
      (fun t => (t.h, t.dvalid, t.upc)) =
      some (⟨0x67452301, 0xefcdab89, 0x98badcfe, 0x10325476⟩, false, .idle) := by decide

/-- R131's example, LEN = 56, and V-FLT-7, LEN = 2^61 − 1: NBLK. -/
theorem test_uRst :
    (nextOf (engineEvent { running .uRst with mlen := 56, blk := 9, last := true })).map
      (fun t => (t.nblk, t.blk, t.last)) = some (2, 0, false) ∧
    (nextOf (engineEvent { running .uRst with mlen := 0x1fffffffffffffff })).map
      (fun t => (regRead t 4, regRead t 5)) = some (0x00000001, 0x00800000) := by decide

/-- V-CHK-3: the one block of "abc". -/
theorem test_uChunk_abc :
    (nextOf (engineEvent { abcLane with upc := .uChunk, busy := true, mlen := 3, nblk := 1 })).map
      (fun t => (t.m.toList, t.blk, status t)) =
      some ([0x80636261, 0, 0, 0, 0, 0, 0, 0, 0, 0, 0, 0, 0, 0, 0x18, 0], 1, 0x0000000c) := by
  decide +kernel

/-- V-CHK-5: block 1 of a message of 56 bytes is all padding; no message byte is read. -/
theorem test_uChunk_padding :
    (nextOf (engineEvent { running .uChunk with mlen := 56, nblk := 2, blk := 1 })).map
      (fun t => (t.m.toList, t.blk, status t)) =
      some ([0, 0, 0, 0, 0, 0, 0, 0, 0, 0, 0, 0, 0, 0, 0x1c0, 0], 2, 0x0000000c) := by
  decide +kernel

/-- R150: W becomes the constants when INIT ran first. -/
theorem test_uLoadw :
    (nextOf (engineEvent { running .uLoadw with h := iv })).map (fun t => (t.w, t.h)) =
      some (⟨0x67452301, 0xefcdab89, 0x98badcfe, 0x10325476⟩, iv) := by decide

/-- R172's example: the carry out of 0xefcdab89 + 0x14e45506 is dropped. -/
theorem test_uChain :
    (nextOf (engineEvent { running .uChain with
      h := iv, w := ⟨0x7246fad3, 0x14e45506, 0xff4ea3eb, 0x6e10a476⟩ })).map (·.h) =
      some ⟨0xd98c1dd4, 0x04b2008f, 0x980980e9, 0x7e42f8ec⟩ := by decide

/-- R173: under AUTO, LAST decides the successor. -/
theorem test_uChain_successor :
    (nextOf (engineEvent { running .uChain with auto := true, last := true })).map (·.upc) =
      some .uSerial ∧
    (nextOf (engineEvent { running .uChain with auto := true })).map (·.upc) = some .uChunk := by
  decide

/-- R174's example: the digest bytes and the registers DIGEST0 to DIGEST3. -/
theorem test_uSerial :
    (nextOf (engineEvent { running .uSerial with
      h := ⟨0xd98c1dd4, 0x04b2008f, 0x980980e9, 0x7e42f8ec⟩ })).map
      (fun t => (t.digest.toList, regRead t 12, regRead t 15, status t)) =
      some ([0xd4, 0x1d, 0x8c, 0xd9, 0x8f, 0x00, 0xb2, 0x04, 0xe9, 0x80, 0x09, 0x98, 0xec, 0xf8,
        0x42, 0x7e], 0xd98c1dd4, 0x7e42f8ec, 0x0000000a) := by decide

/-- V-HEX-4: the registers HEX0 to HEX7. -/
theorem test_uHex :
    (nextOf (engineEvent { running .uHex with
      digest := #v[0x01, 0x23, 0x45, 0x67, 0x89, 0xab, 0xcd, 0xef, 0xfe, 0xdc, 0xba, 0x98, 0x76,
        0x54, 0x32, 0x10] })).map
      (fun t => (List.range 8).map fun k => regRead t (BitVec.ofNat 6 (32 + k))) =
      some [0x33323130, 0x37363534, 0x62613938, 0x66656463, 0x63646566, 0x38396162, 0x34353637,
        0x30313233] := by decide +kernel

/-- V-HST-9. -/
theorem test_uNop :
    (nextOf (engineEvent (running .uNop))).map (fun t => (t.upc, t.busy, status t)) =
      some (.idle, false, 0x00000008) := by decide

/-! ### Host access and faults (V-HST, V-FLT) -/

/-- V-HST-1 to V-HST-3: every register right after reset. -/
theorem test_registers_after_reset :
    (List.range 64).map (fun r => regRead (lane 1024) (BitVec.ofNat 6 r)) =
      0 :: 0x00000008 :: List.replicate 62 0 := by decide +kernel

/-- V-HST-4. -/
theorem test_len_halves :
    (nextOf (hostEvent (.wr 2 0xdeadbeef) { lane 1024 with len := 0x1234567800000000 })).map
      (fun t => (regRead t 2, regRead t 3, status t)) =
      some (0xdeadbeef, 0x12345678, 0x00000008) := by decide

/-- V-HST-5: read-only and reserved registers. -/
theorem test_read_only_registers :
    [(1 : BitVec 6), 8, 12, 16, 32, 40, 63].map
      (fun r => (nextOf (hostEvent (.wr r 1) (lane 1024))).map fun t => decide (t = lane 1024)) =
      List.replicate 7 (some true) := by decide +kernel

/-- V-HST-6 and V-HST-7: a stored byte, and the address MSG_CAP. -/
theorem test_message_write :
    (nextOf (hostEvent (.mw 5 0xab) (lane 1024))).map (msgRead · 5) = some 0xab ∧
    (nextOf (hostEvent (.mw 1024 0xab) (lane 1024))).map (fun t => (t.msg, msgRead t 1024)) =
      some ([], 0x00) := by decide

/-- V-FLT-1 to V-FLT-4. -/
theorem test_fault_codes :
    [0x0000000a, 0x00000101, 0xffffffff, 0x00000003].map
      (fun v => statusAfter (.wr 0 v) (lane 1024)) =
      [some 0x00000118, some 0x00000118, some 0x00000118, some 0x00000418] := by decide

/-- V-FLT-6, V-FLT-8, V-FLT-11: LEN = 2^61, LEN = MSG_CAP + 1, and CHKRST. -/
theorem test_length_faults :
    statusAfter (.wr 0 8) { State.reset with len := 0x2000000000000000 } = some 0x00000318 ∧
    statusAfter (.wr 0 8) { lane 16 with len := 17 } = some 0x00000318 ∧
    statusAfter (.wr 0 2) { lane 1024 with len := 0xffffffff00000000 } = some 0x00000318 := by
  decide

/-- V-FLT-13 (n = 0) and V-FLT-21: E_BUSY comes before E_ILLCMD, and the byte is not stored. -/
theorem test_busy_faults :
    statusAfter (.wr 0 0x000000ff) (running .uStep) = some 0x00000218 ∧
    (nextOf (hostEvent (.mw 0 0) (running .uStep))).map (fun t => (status t, t.msg)) =
      some (0x00000218, []) := by decide

/-- V-FLT-14 to V-FLT-16: a faulted lane drops writes and keeps the first fault; reset leaves it. -/
theorem test_faulted_lane :
    statusAfter (.wr 0 1) (faulted []) = some 0x00000118 ∧
    statusAfter (.wr 2 5) (faulted []) = some 0x00000118 ∧
    (nextOf (hostEvent (.mw 0 0x61) (faulted []))).map (·.msg) = some [] ∧
    statusAfter .reset (faulted []) = some 0x00000008 := by decide

/-- V-FLT-19 and V-FLT-20: ignored targets come first. -/
theorem test_ignored_while_busy :
    statusAfter (.wr 1 1) (running .uNop) = some 0x00000009 ∧
    statusAfter (.mw 2000 0) (running .uStep) = some 0x00000009 := by decide

/-- R43: the three level outputs are the flags. -/
theorem test_outputs :
    (outBusy (running .uStep), outDvalid (running .uStep), outErr (faulted [])) =
      (true, false, true) := by decide

/-- R97: the notation's expansions. -/
theorem test_notation :
    runEvents .compute = [.host (.wr 0 8), .wait] ∧
    setLenEvents 0x1234567800000003 = [.host (.wr 2 3), .host (.wr 3 0x12345678)] ∧
    loadStrEvents ['a', 'b', 'c'] =
      [.host (.mw 0 0x61), .host (.mw 1 0x62), .host (.mw 2 0x63)] := by decide

/-- A WAIT polls, lets the engine move and polls again while BUSY = 1 (log 7). -/
theorem test_wait :
    (nextOf (step { running .uNop with agenda := [.wait] })).map (fun t => (t.agenda, t.replies)) =
      some ([.engine, .wait], [.word 0x00000009]) ∧
    (nextOf (step { lane 1024 with agenda := [.wait] })).map (fun t => (t.agenda, t.replies)) =
      some ([], [.word 0x00000008]) := by decide

/-- The host's two probes: a command word and a step row, as the first instruction after reset. -/
theorem test_withFetchWord :
    (nextOf (step (State.reset.withFetchWord 32 5))).map (fun t => (t.upc, t.busy)) =
      some (.uStep, true) ∧
    (nextOf (step (State.reset.withFetchWord 8 1))).map (fun t => (t.w.b, t.stepCtr)) =
      some (rotl32 0xe8c7b756 12, 2) := by decide +kernel

/-! ### Witnesses: a concrete state and operands for the hypotheses of each obligation -/

/-- A ready lane of full capacity with the largest legal length, LEN = MSG_CAP = 2^61 − 1. -/
def longLane : State := { State.reset with len := 0x1fffffffffffffff }

/-- The lane of "abc" in the last step of the last block of COMPUTE. -/
def lastStepLane : State :=
  { abcLane with
    mlen := 3, nblk := 1, blk := 1, last := true, upc := .uStep, stepCtr := 63, auto := true,
    busy := true }

theorem ready_lane (cap : Fin (2 ^ 61)) : Ready (lane cap) := ⟨rfl, rfl, rfl, rfl, rfl, rfl⟩
theorem ready_abcLane : Ready abcLane := ⟨rfl, rfl, rfl, rfl, rfl, rfl⟩
theorem ready_longLane : Ready longLane := ⟨rfl, rfl, rfl, rfl, rfl, rfl⟩
theorem inv_lane : Inv (lane 1024) := by constructor <;> decide
theorem inv_abcLane : Inv abcLane := by constructor <;> decide
theorem inv_lastStepLane : Inv lastStepLane := by constructor <;> decide
theorem inv_faulted : Inv (faulted []) := by constructor <;> decide

/-- The first word past the opcode map, the first past bits 7:0, and the largest. -/
theorem witness_IllegalCommandWords :
    ¬ ((0x0000000a : Word).extractLsb' 8 24 = 0 ∧ ((0x0000000a : Word).extractLsb' 0 8).toNat ≤ 9) ∧
    ¬ ((0x00000100 : Word).extractLsb' 8 24 = 0 ∧ ((0x00000100 : Word).extractLsb' 0 8).toNat ≤ 9) ∧
    ¬ ((0xffffffff : Word).extractLsb' 8 24 = 0 ∧ ((0xffffffff : Word).extractLsb' 0 8).toNat ≤ 9) ∧
    (lane 1024).busy = false ∧ (lane 1024).err = false ∧
    ({ lane 1024 with agenda := [.host (.wr 0 0x0000000a)] } : State).agenda =
      .host (.wr 0 0x0000000a) :: [] :=
  ⟨by decide, by decide, by decide, rfl, rfl, rfl⟩

theorem witness_StepSelection :
    (15 : BitVec 6).toNat < 16 ∧
    (16 ≤ (16 : BitVec 6).toNat ∧ (16 : BitVec 6).toNat < 32) ∧
    (16 ≤ (31 : BitVec 6).toNat ∧ (31 : BitVec 6).toNat < 32) ∧
    (32 ≤ (32 : BitVec 6).toNat ∧ (32 : BitVec 6).toNat < 48) ∧
    (32 ≤ (47 : BitVec 6).toNat ∧ (47 : BitVec 6).toNat < 48) ∧
    48 ≤ (48 : BitVec 6).toNat ∧ 48 ≤ (63 : BitVec 6).toNat ∧
    -- q = 3, g = 9, found at j = 15
    (3 < 4 ∧ 9 < 16 ∧ 15 < 16 ∧ wordIndex (BitVec.ofNat 6 (16 * 3 + 15)) = 9) := by decide

/-- Both ends of the range of amounts. -/
theorem witness_RotateIsTheStatedFormula : (1 ≤ 1 ∧ 1 ≤ 31) ∧ (1 ≤ 31 ∧ 31 ≤ 31) := by decide

theorem witness_StepFunctionsBitByBit : 0 < 32 ∧ 31 < 32 := by decide

/-- The first and the last step, and both sides of a quartile's bound. -/
theorem witness_StepRowEffect :
    encode .ustep0 = .stepCounter 0 ∧ encode .ustep15 = .stepCounter 15 ∧
    encode .ustep16 = .stepCounter 16 ∧ encode .ustep63 = .stepCounter 63 := by decide

theorem witness_StepRowsFrame :
    (encode .ustep62 = .stepCounter 62 ∧ (62 : BitVec 6) ≠ 63 ∧
      ∃ t, exec .ustep62 (running .uStep) = .next t) ∧
    (encode .ustep63 = .stepCounter 63 ∧ ∃ t, exec .ustep63 (running .uStep) = .next t) :=
  ⟨⟨rfl, by decide, _, rfl⟩, rfl, _, rfl⟩

theorem witness_RoundCommand :
    (abcLane.busy = false ∧ abcLane.err = false) ∧ Ready abcLane := ⟨⟨rfl, rfl⟩, ready_abcLane⟩

theorem witness_NopCommand :
    (abcLane.busy = false ∧ abcLane.err = false) ∧ (running .uNop).upc = .uNop ∧ Ready abcLane :=
  ⟨⟨rfl, rfl⟩, rfl, ready_abcLane⟩

theorem witness_InitCommand :
    (abcLane.busy = false ∧ abcLane.err = false) ∧ (running .uInit).upc = .uInit ∧ Ready abcLane :=
  ⟨⟨rfl, rfl⟩, rfl, ready_abcLane⟩

theorem witness_LoadwCommand :
    (abcLane.busy = false ∧ abcLane.err = false) ∧ (running .uLoadw).upc = .uLoadw ∧
      Ready abcLane := ⟨⟨rfl, rfl⟩, rfl, ready_abcLane⟩

theorem witness_ChainCommand :
    (abcLane.busy = false ∧ abcLane.err = false) ∧ (running .uChain).upc = .uChain ∧
      Ready abcLane := ⟨⟨rfl, rfl⟩, rfl, ready_abcLane⟩

theorem witness_SerialCommand :
    (abcLane.busy = false ∧ abcLane.err = false) ∧ (running .uSerial).upc = .uSerial ∧
      Ready abcLane ∧ 3 < 4 := ⟨⟨rfl, rfl⟩, rfl, ready_abcLane, by decide⟩

theorem witness_HexfmtCommand :
    (abcLane.busy = false ∧ abcLane.err = false) ∧ (running .uHex).upc = .uHex ∧ Ready abcLane :=
  ⟨⟨rfl, rfl⟩, rfl, ready_abcLane⟩

/-- A length between the bounds, the largest legal length, and both ways to be illegal by one. -/
theorem witness_lengths :
    (abcLane.len.toNat < 2 ^ 61 ∧ abcLane.len.toNat ≤ msgCap abcLane) ∧
    (longLane.len.toNat < 2 ^ 61 ∧ longLane.len.toNat = msgCap longLane) ∧
    2 ^ 61 ≤ ({ longLane with len := 0x2000000000000000 } : State).len.toNat ∧
    msgCap (lane 16) < ({ lane 16 with len := 17 } : State).len.toNat := by decide

/-- With witness_lengths, whose lanes are idle and unfaulted. -/
theorem witness_ChkrstCommand :
    (longLane.busy = false ∧ longLane.err = false ∧ longLane.len.toNat < 2 ^ 61 ∧
      longLane.len.toNat ≤ msgCap longLane) ∧
    (({ lane 16 with len := 17 } : State).busy = false ∧
      ({ lane 16 with len := 17 } : State).err = false ∧
      msgCap { lane 16 with len := 17 } < ({ lane 16 with len := 17 } : State).len.toNat) ∧
    (running .uRst).upc = .uRst ∧ Ready longLane ∧ Ready abcLane :=
  ⟨by decide, by decide, rfl, ready_longLane, ready_abcLane⟩

/-- BLK one below NBLK, and equal to it. -/
theorem witness_ChknxtCommand :
    (({ lane 1024 with nblk := 2, blk := 1 } : State).blk ≠
      ({ lane 1024 with nblk := 2, blk := 1 } : State).nblk) ∧
    ({ lane 1024 with nblk := 2, blk := 2 } : State).blk =
      ({ lane 1024 with nblk := 2, blk := 2 } : State).nblk ∧
    (({ running .uChunk with nblk := 2, blk := 1 } : State).upc = .uChunk ∧
      ({ running .uChunk with nblk := 2, blk := 1 } : State).blk.toNat <
        ({ running .uChunk with nblk := 2, blk := 1 } : State).nblk.toNat) ∧
    (Ready { lane 1024 with nblk := 2, blk := 1 } ∧ (1 : BitVec 56).toNat < (2 : BitVec 56).toNat) :=
  ⟨by decide, by decide, by decide, ⟨rfl, rfl, rfl, rfl, rfl, rfl⟩, by decide⟩

theorem witness_ComputeAcceptance :
    (longLane.busy = false ∧ longLane.err = false ∧ longLane.len.toNat < 2 ^ 61 ∧
      longLane.len.toNat ≤ msgCap longLane) ∧
    (({ longLane with len := 0x2000000000000000 } : State).busy = false ∧
      ({ longLane with len := 0x2000000000000000 } : State).err = false ∧
      2 ^ 61 ≤ ({ longLane with len := 0x2000000000000000 } : State).len.toNat) ∧
    msgCap longLane = 2 ^ 61 - 1 ∧ longLane.len = 0x1fffffffffffffff := by decide

/-- The empty message in a lane of no capacity (V-FLT-10), a short one, and the longest. -/
theorem witness_ComputeGivesTheDigest :
    (Ready (lane 0) ∧ (lane 0).len.toNat < 2 ^ 61 ∧ (lane 0).len.toNat ≤ msgCap (lane 0)) ∧
    (Ready abcLane ∧ abcLane.len.toNat < 2 ^ 61 ∧ abcLane.len.toNat ≤ msgCap abcLane) ∧
    (Ready longLane ∧ longLane.len.toNat < 2 ^ 61 ∧ longLane.len.toNat ≤ msgCap longLane) :=
  ⟨⟨ready_lane 0, by decide⟩, ⟨ready_abcLane, by decide⟩, ready_longLane, by decide⟩

/-- LEN = 56 has two blocks, so k = 1 is a pass before the last and k = 2 the last. -/
theorem witness_ComputeEqualsHandSequence :
    Ready { lane 1024 with len := 56 } ∧
    (({ lane 1024 with len := 56 } : State).len.toNat < 2 ^ 61 ∧
      ({ lane 1024 with len := 56 } : State).len.toNat ≤ msgCap { lane 1024 with len := 56 }) ∧
    (1 ≤ 1 ∧ 1 ≤ (56 + 8) / 64 + 1) ∧ (1 ≤ 2 ∧ 2 ≤ (56 + 8) / 64 + 1) :=
  ⟨⟨rfl, rfl, rfl, rfl, rfl, rfl⟩, by decide⟩

/-- Accepted, dropped and faulted. -/
theorem witness_CommandsFrame :
    (encode .hexfmt = .cmdWord 9 ∧
      ∃ t, exec .hexfmt abcLane = .next t ∧ t.err = abcLane.err) ∧
    (encode .nop = .cmdWord 0 ∧ (faulted []).err = true ∧
      ∃ t, exec .nop (faulted []) = .next t) ∧
    (encode .chknxt = .cmdWord 3 ∧
      ∃ t, exec .chknxt (lane 1024) = .next t ∧ t.err ≠ (lane 1024).err) :=
  ⟨⟨rfl, _, rfl, rfl⟩, ⟨rfl, rfl, _, rfl⟩, rfl, _, rfl, by decide⟩

/-- U_STEP before and at step 63, alone and under AUTO. -/
theorem witness_SequencerSuccessors :
    ((lane 1024).upc = .idle ∧ (faulted []).upc = .fault) ∧
    (({ running .uStep with stepCtr := 62 } : State).upc = .uStep ∧
      ({ running .uStep with stepCtr := 62 } : State).stepCtr ≠ 63) ∧
    (({ running .uStep with stepCtr := 63 } : State).auto = false ∧
      ¬ (({ running .uStep with stepCtr := 63 } : State).upc = .uStep ∧
        ({ running .uStep with stepCtr := 63 } : State).stepCtr ≠ 63)) ∧
    (lastStepLane.auto = true ∧ lastStepLane.upc = .uStep ∧ lastStepLane.stepCtr = 63) ∧
    ∀ u ∈ [UPC.uInit, .uRst, .uChunk, .uLoadw, .uChain],
      ({ running u with auto := true } : State).auto = true ∧
      ({ running u with auto := true } : State).upc = u := by decide

/-- A lane with work left (the last step, U_CHAIN and U_SERIAL) and none listed. -/
theorem witness_EngineFinishes :
    Inv lastStepLane ∧ lastStepLane.agenda = [] ∧ opsLeft lastStepLane = 3 ∧
      0 < opsLeft lastStepLane ∧ 2 < opsLeft lastStepLane :=
  ⟨inv_lastStepLane, by decide⟩

theorem witness_MicroOperationCounts :
    Ready { abcLane with nblk := 1 } ∧
    ({ abcLane with nblk := 1 } : State).blk ≠ ({ abcLane with nblk := 1 } : State).nblk ∧
    ({ abcLane with nblk := 1 } : State).len.toNat < 2 ^ 61 ∧
    ({ abcLane with nblk := 1 } : State).len.toNat ≤ msgCap { abcLane with nblk := 1 } :=
  ⟨⟨rfl, rfl, rfl, rfl, rfl, rfl⟩, by decide⟩

/-- Each of the five registers changed by a step, and one by reset. -/
theorem witness_DatapathWriters :
    (∃ t, step (running .uInit) = .next t ∧ t.h ≠ (running .uInit).h) ∧
    (∃ t, step { running .uLoadw with h := iv } = .next t ∧
      t.w ≠ ({ running .uLoadw with h := iv } : State).w) ∧
    (∃ t, step { running .uChunk with nblk := 1 } = .next t ∧
      t.m ≠ ({ running .uChunk with nblk := 1 } : State).m) ∧
    (∃ t, step { running .uSerial with h := iv } = .next t ∧
      t.digest ≠ ({ running .uSerial with h := iv } : State).digest) ∧
    (∃ t, step (running .uHex) = .next t ∧ t.hex ≠ (running .uHex).hex) ∧
    (∃ t, step { lane 1024 with h := iv, agenda := [.host .reset] } = .next t ∧
      t.h ≠ ({ lane 1024 with h := iv, agenda := [.host .reset] } : State).h) :=
  ⟨⟨_, rfl, by decide⟩, ⟨_, rfl, by decide⟩, ⟨_, rfl, by decide +kernel⟩, ⟨_, rfl, by decide⟩,
    ⟨_, rfl, by decide +kernel⟩, _, rfl, by decide⟩

theorem witness_ControlStateWriters :
    (∃ t, step { lane 1024 with agenda := [.host (.wr 3 1)] } = .next t ∧ t.len ≠ 0) ∧
    (∃ t, step { abcLane with agenda := [.host (.wr 0 2)] } = .next t ∧ t.mlen ≠ abcLane.mlen) ∧
    (∃ t, step (running .uRst) = .next t ∧ t.nblk ≠ (running .uRst).nblk) ∧
    (∃ t, step { running .uChunk with nblk := 1 } = .next t ∧
      (t.blk ≠ (0 : BitVec 56) ∨ t.last ≠ false)) ∧
    (∃ t, step (running .uStep) = .next t ∧ t.stepCtr ≠ (running .uStep).stepCtr) :=
  ⟨⟨_, rfl, by decide⟩, ⟨_, rfl, by decide⟩, ⟨_, rfl, by decide⟩, ⟨_, rfl, by decide⟩,
    _, rfl, by decide +kernel⟩

/-- Each clause: set, cleared by U_INIT, by reset, by fault entry, and left alone. -/
theorem witness_DvalidChanges :
    ((∃ t, step (running .uSerial) = .next t) ∧ nextEvent (running .uSerial) = .engine) ∧
    ((∃ t, step (running .uInit) = .next t) ∧ nextEvent (running .uInit) = .engine) ∧
    (∃ t, step { lane 1024 with agenda := [.host .reset] } = .next t) ∧
    (∃ t, step { lane 1024 with agenda := [.host (.wr 0 10)] } = .next t ∧ t.err = true) ∧
    (∃ t, step (running .uNop) = .next t ∧
      ¬ (nextEvent (running .uNop) = .engine ∧
        ((running .uNop).upc = .uSerial ∨ (running .uNop).upc = .uInit)) ∧
      nextEvent (running .uNop) ≠ .host .reset ∧
      ¬ ((running .uNop).err = false ∧ t.err = true)) :=
  ⟨⟨⟨_, rfl⟩, rfl⟩, ⟨⟨_, rfl⟩, rfl⟩, ⟨_, rfl⟩, ⟨_, rfl, rfl⟩, _, rfl, by decide⟩

/-- An engine event, and a write to the neighbouring address. -/
theorem witness_MessageBytesStayUntilOverwritten :
    ((∃ t, step (running .uNop) = .next t) ∧
      ∀ b : Byte, nextEvent (running .uNop) ≠ .host (.mw 1023 b)) ∧
    ((∃ t, step { lane 1024 with agenda := [.host (.mw 1022 7)] } = .next t) ∧
      ∀ b : Byte,
        nextEvent { lane 1024 with agenda := [.host (.mw 1022 7)] } ≠ .host (.mw 1023 b)) :=
  ⟨⟨⟨_, rfl⟩, fun b => by simp [nextEvent, running, lane, State.reset]⟩, ⟨_, rfl⟩,
    fun b => by simp [nextEvent]⟩

/-- Every clause: any agenda may stand in a faulted lane. -/
theorem witness_FaultedLaneWaitsForReset (ag : List Event) :
    (faulted ag).err = true ∧ (faulted ag).upc = .fault ∧ (faulted ag).busy = false ∧
      (faulted ag).agenda = ag := ⟨rfl, rfl, rfl, rfl⟩

/-- Each of the four faults. -/
theorem witness_FaultEntryIsSixAssignments :
    (∃ t, step { lane 1024 with agenda := [.host (.wr 0 10)] } = .next t ∧ t.err = true) ∧
    (∃ t, step { running .uStep with agenda := [.host (.mw 1023 0)] } = .next t ∧ t.err = true) ∧
    (∃ t, step { lane 16 with len := 17, agenda := [.host (.wr 0 8)] } = .next t ∧
      t.err = true) ∧
    (∃ t, step { lane 16 with agenda := [.host (.wr 0 3)] } = .next t ∧ t.err = true) :=
  ⟨⟨_, rfl, rfl⟩, ⟨_, rfl, rfl⟩, ⟨_, rfl, rfl⟩, _, rfl, rfl⟩

/-- An event that obeys and one that does not, in an unfaulted lane. -/
theorem witness_FaultsExactlyOnMisuse :
    (running .uStep).err = false ∧ hostObeys (running .uStep) (.mw 1024 0) = true ∧
    hostObeys (running .uStep) (.mw 1023 0) = false := by decide

/-- Each clause of the priority, at the bounds of its range. -/
theorem witness_WritePriority :
    ((1 : BitVec 6) ≠ 0 ∧ (1 : BitVec 6) ≠ 2 ∧ (1 : BitVec 6) ≠ 3) ∧
    ((4 : BitVec 6) ≠ 0 ∧ (4 : BitVec 6) ≠ 2 ∧ (4 : BitVec 6) ≠ 3) ∧
    msgCap (lane 1024) ≤ (1024 : BitVec 61).toNat ∧
    (faulted []).err = true ∧
    ((running .uStep).err = false ∧ (running .uStep).busy = true ∧
      (1023 : BitVec 61).toNat < msgCap (running .uStep)) ∧
    ((lane 1024).err = false ∧ (lane 1024).busy = false ∧ 10 ≤ (10 : Word).toNat) ∧
    msgCap (lane 16) < ({ lane 16 with len := 17 } : State).len.toNat ∧
    (lane 1024).blk = (lane 1024).nblk := by decide

theorem witness_RegisterReadMap :
    40 ≤ (40 : BitVec 6).toNat ∧ 40 ≤ (63 : BitVec 6).toNat := by decide

theorem witness_ReadsChangeNothing :
    ({ abcLane with agenda := [.host (.rd 63)] } : State).agenda = .host (.rd 63) :: [] ∧
    ({ abcLane with agenda := [.host (.mr 1023)] } : State).agenda = .host (.mr 1023) :: [] ∧
    ({ abcLane with agenda := [.host (.mr 1024)] } : State).agenda = .host (.mr 1024) :: [] :=
  ⟨rfl, rfl, rfl⟩

theorem witness_LengthRegisterHalves :
    (lane 1024).busy = false ∧ (lane 1024).err = false ∧
    ({ lane 1024 with agenda := [.host (.wr 2 0xffffffff)] } : State).agenda =
      .host (.wr 2 0xffffffff) :: [] ∧
    ({ lane 1024 with agenda := [.host (.wr 3 0xffffffff)] } : State).agenda =
      .host (.wr 3 0xffffffff) :: [] := ⟨rfl, rfl, rfl, rfl⟩

/-- The addresses MSG_CAP and MSG_CAP − 1; faulted, busy and idle. -/
theorem witness_MessageWriteEffect :
    ({ lane 1024 with agenda := [.host (.mw 1024 7)] } : State).agenda = .host (.mw 1024 7) :: [] ∧
    msgCap (lane 1024) ≤ (1024 : BitVec 61).toNat ∧ (faulted []).err = true ∧
    ((1023 : BitVec 61).toNat < msgCap (running .uStep) ∧ (running .uStep).err = false ∧
      (running .uStep).busy = true) ∧
    ((1023 : BitVec 61).toNat < msgCap (lane 1024) ∧ (lane 1024).err = false ∧
      (lane 1024).busy = false) ∧
    (1022 : BitVec 61) ≠ 1023 := by decide

/-- Reset of a busy and of a faulted lane; a command; the way out of FAULT. -/
theorem witness_ResetEffect :
    ({ running .uStep with agenda := [.host .reset] } : State).agenda = .host .reset :: [] ∧
    (encode .compute = .cmdWord 8 ∧ Instr.compute ≠ .chknxt) ∧
    (∃ t, step (faulted [.host .reset]) = .next t ∧ (faulted [.host .reset]).err = true ∧
      t.err = false ∧ (faulted [.host .reset]).upc = .fault ∧ t.upc ≠ .fault) :=
  ⟨rfl, by decide, _, rfl, by decide⟩

/-- L = 55 fills one block exactly; the largest legal length. -/
theorem witness_BlockCountIsSmallest : 55 + 9 ≤ 64 * 1 ∧ 2 ^ 61 - 1 < 2 ^ 61 := by decide

/-- L = 64, two blocks, T = 120: the positions where the clauses meet. -/
theorem witness_BlocksAreThePaddedStream :
    64 < 2 ^ 61 ∧ 64 * nblkf 64 = 128 ∧ (∀ p ∈ [63, 64, 65, 119, 120, 127], p < 64 * nblkf 64) ∧
    63 < 64 ∧ (64 < 65 ∧ 119 < 64 * nblkf 64 - 8) ∧ 64 * nblkf 64 - 8 ≤ 120 := by decide

/-- The lane of "abc" about to chunk. -/
def chunkLane : State := { abcLane with upc := .uChunk, busy := true, mlen := 3, nblk := 1 }

/-- Two memories that differ at address MLEN = 3 only; a lane that is not about to chunk. -/
theorem witness_ChunkerReadsOnlyTheMessage :
    (let s' := { chunkLane with msg := chunkLane.msg ++ [(3, 0xff)] }
     chunkLane.upc = .uChunk ∧ s'.upc = .uChunk ∧ chunkLane.mlen = s'.mlen ∧
      chunkLane.nblk = s'.nblk ∧ chunkLane.blk = s'.blk ∧
      (∀ p : Nat, 64 * chunkLane.blk.toNat ≤ p → p < 64 * chunkLane.blk.toNat + 64 →
        p < chunkLane.mlen.toNat → memRead chunkLane p = memRead s' p) ∧
      (∃ t, engineEvent chunkLane = .next t) ∧ ∃ t, engineEvent s' = .next t) ∧
    (chunkLane.mlen.toNat ≤ msgCap chunkLane ∧ 2 < chunkLane.mlen.toNat) ∧
    ((running .uLoadw).upc ≠ .uChunk ∧ ∃ t, engineEvent (running .uLoadw) = .next t) := by
  refine ⟨⟨rfl, rfl, rfl, rfl, rfl, fun p _ _ hp => ?_, ⟨_, rfl⟩, _, rfl⟩, by decide, by decide,
    _, rfl⟩
  have h3 : p < 3 := hp
  interval_cases p <;> rfl

/-- MLEN = 2^53 − 1 and 2^53: both sides of the bound of the eighth byte. -/
theorem witness_FinalBlockHoldsTheLength :
    ∀ l ∈ [2 ^ 53 - 1, 2 ^ 53],
      let s : State := { running .uChunk with
        mlen := BitVec.ofNat 61 l, nblk := 0x800000000001, blk := 0x800000000000 }
      s.upc = .uChunk ∧ s.nblk.toNat = nblkf s.mlen.toNat ∧ s.blk.toNat + 1 = s.nblk.toNat := by
  decide

/-- Two equal digests have equal strings; the other clause has no hypothesis. -/
theorem witness_HexIsLowercaseAndFaithful :
    hexString (Vector.replicate 16 0xa0) = hexString (Vector.replicate 16 0xa0) := rfl

theorem witness_DigestRegistersShowTheState : (running .uSerial).upc = .uSerial := rfl

/-- An idle, a running and a faulted lane, each with a step. -/
theorem witness_StepKeepsInvariant :
    (Inv abcLane ∧ ∃ t, step abcLane = .next t) ∧
    (Inv lastStepLane ∧ ∃ t, step lastStepLane = .next t) ∧
    (Inv (faulted []) ∧ ∃ t, step (faulted []) = .next t) :=
  ⟨⟨inv_abcLane, _, rfl⟩, ⟨inv_lastStepLane, _, rfl⟩, inv_faulted, _, rfl⟩

theorem witness_InvariantGivesSpecInvariants :
    Inv lastStepLane ∧
    ∃ t, runSteps 2 { State.reset with agenda := [.host (.wr 0 2), .engine] } = .next t ∧
      t.nblk = 1 :=
  ⟨inv_lastStepLane, _, rfl, by decide⟩

theorem witness_LanesAreIndependent :
    ((Chip.reset 2).lanes[1]? = some { State.reset with powerUp := 1 }) ∧ (0 : Nat) ≠ 1 ∧ 1 < 2 := by
  decide

/-- A poll before and after an engine turn, and a message read. -/
theorem witness_ReadsDoNotDisturbTheEngine :
    (∀ e ∈ [Event.host (.rd 1), .engine, .host (.rd 1), .host (.mr 0)],
      e = .engine ∨ (∃ r, e = .host (.rd r)) ∨ ∃ a, e = .host (.mr a)) ∧
    ∃ t, runSteps 4 { running .uStep with
      agenda := [Event.host (.rd 1), .engine, .host (.rd 1), .host (.mr 0)] ++ [] } = .next t := by
  refine ⟨?_, _, rfl⟩
  simp

theorem witness_WaitTerminates :
    Inv { lastStepLane with agenda := [.wait] } ∧
    ({ lastStepLane with agenda := [.wait] } : State).agenda = .wait :: [] := by
  refine ⟨?_, rfl⟩
  constructor <;> decide

theorem witness_StepRunsTheCommand :
    (({ lane 1024 with agenda := [.host (.wr 0 9)] } : State).agenda = .host (.wr 0 9) :: [] ∧
      decode (.cmdWord 9) = .ok .hexfmt) ∧ decodeTableWord 32 9 = some .hexfmt := by decide

theorem witness_StepRunsTheStepRow :
    ((running .uStep).upc = .uStep ∧
      decode (.stepCounter (running .uStep).stepCtr) = .ok .ustep0 ∧
      (running .uStep).agenda = [] ∧
      ({ running .uStep with agenda := [.engine] } : State).agenda = .engine :: []) ∧
    decodeTableWord 8 63 = some .ustep63 := by decide

end Sys2Proof.Tests
end

section
/-! PROOFS. The rotation and the byte packing of 00_scope.md R10 and R11, as arithmetic. -/

namespace Sys2Proof.Machine

/-- The bits that stay below bit 32 when x moves up s places: the low 32 − s bits of x, scaled. -/
theorem mul_two_pow_mod_word (x : Nat) {s : Nat} (hs : s ≤ 32) :
    x * 2 ^ s % 2 ^ 32 = 2 ^ s * (x % 2 ^ (32 - s)) := by
  have word_size : 2 ^ 32 = 2 ^ s * 2 ^ (32 - s) := by rw [← Nat.pow_add, Nat.add_sub_cancel' hs]
  rw [word_size, Nat.mul_comm x, Nat.mul_mod_mul_left]

/-- The bits that leave x at the top fit below bit s. -/
theorem word_div_two_pow_lt (x : Word) {s : Nat} (hs : s ≤ 32) :
    x.toNat / 2 ^ (32 - s) < 2 ^ s := by
  rw [Nat.div_lt_iff_lt_mul (by positivity), ← Nat.pow_add, Nat.add_sub_cancel' hs]
  exact x.isLt

/-- R11's formula: the bits moved up and the bits that re-enter do not overlap, so that their
disjunction is their sum. -/
theorem rotl32_toNat (x : Word) {s : Nat} (hs : s < 32) :
    (rotl32 x s).toNat = x.toNat * 2 ^ s % 2 ^ 32 + x.toNat / 2 ^ (32 - s) := by
  calc (rotl32 x s).toNat
      = x.toNat * 2 ^ s % 2 ^ 32 ||| x.toNat / 2 ^ (32 - s) := by
        rw [rotl32, BitVec.toNat_rotateLeft, Nat.mod_eq_of_lt hs, Nat.shiftLeft_eq,
          Nat.shiftRight_eq_div_pow]
    _ = x.toNat * 2 ^ s % 2 ^ 32 + x.toNat / 2 ^ (32 - s) := by
        rw [mul_two_pow_mod_word _ hs.le,
          Nat.two_pow_add_eq_or_of_lt (word_div_two_pow_lt x hs.le)]

/-- Settles O5, by `rotl32_toNat`; the formula needs no lower bound on s. -/
theorem rotateIsTheStatedFormula : Obligations.RotateIsTheStatedFormula := by
  intro x s _ hs
  exact rotl32_toNat x (by omega)

/-- Concatenation as a sum: the low part stays below the high part's weight. -/
theorem toNat_append_eq_add {m n : Nat} (hi : BitVec m) (lo : BitVec n) :
    (hi ++ lo).toNat = 2 ^ n * hi.toNat + lo.toNat := by
  rw [BitVec.toNat_append, ← Nat.shiftLeft_add_eq_or_of_lt lo.isLt, Nat.shiftLeft_eq, Nat.mul_comm]

theorem le32_toNat (b0 b1 b2 b3 : Byte) :
    (le32 b0 b1 b2 b3).toNat =
      b0.toNat + 2 ^ 8 * b1.toNat + 2 ^ 16 * b2.toNat + 2 ^ 24 * b3.toNat := by
  simp only [le32, toNat_append_eq_add]
  omega

section bytesOfLe32

variable (b0 b1 b2 b3 : Byte)

@[simp] theorem byteOf_zero_le32 : byteOf 0 (le32 b0 b1 b2 b3) = b0 :=
  BitVec.extractLsb'_append_eq_right

/-- The bytes above byte 0 are read from the concatenation without its lowest part. -/
theorem byteOf_succ_le32 (k : Nat) :
    byteOf (k + 1) (le32 b0 b1 b2 b3) = (b3 ++ b2 ++ b1).extractLsb' (8 * k) 8 :=
  BitVec.extractLsb'_append_eq_of_le (show 8 ≤ 8 * (k + 1) by omega)

@[simp] theorem byteOf_one_le32 : byteOf 1 (le32 b0 b1 b2 b3) = b1 :=
  (byteOf_succ_le32 b0 b1 b2 b3 0).trans BitVec.extractLsb'_append_eq_right

@[simp] theorem byteOf_two_le32 : byteOf 2 (le32 b0 b1 b2 b3) = b2 := by
  rw [byteOf_succ_le32, BitVec.extractLsb'_append_eq_of_le (by decide)]
  exact BitVec.extractLsb'_append_eq_right

@[simp] theorem byteOf_three_le32 : byteOf 3 (le32 b0 b1 b2 b3) = b3 := by
  rw [byteOf_succ_le32, BitVec.extractLsb'_append_eq_of_le (by decide)]
  exact BitVec.extractLsb'_append_eq_left

end bytesOfLe32

/-- The four bytes of a word are adjacent ranges of its bits, and join to all 32. -/
@[simp] theorem le32_byteOf (w : Word) :
    le32 (byteOf 0 w) (byteOf 1 w) (byteOf 2 w) (byteOf 3 w) = w := by
  rw [le32, byteOf, byteOf, byteOf, byteOf,
    BitVec.extractLsb'_append_extractLsb'_eq_extractLsb' (show 8 * 3 = 8 * 2 + 8 from rfl),
    BitVec.extractLsb'_append_extractLsb'_eq_extractLsb' (show 8 * 2 = 8 * 1 + 8 from rfl),
    BitVec.extractLsb'_append_extractLsb'_eq_extractLsb' (show 8 * 1 = 8 * 0 + 8 from rfl)]
  exact BitVec.extractLsb'_eq_self

/-- Settles O7: the packing as a sum, each byte of it, and the inverse. -/
theorem wordsAreLittleEndian : Obligations.WordsAreLittleEndian :=
  ⟨fun b0 b1 b2 b3 => ⟨le32_toNat b0 b1 b2 b3, byteOf_zero_le32 b0 b1 b2 b3,
    byteOf_one_le32 b0 b1 b2 b3, byteOf_two_le32 b0 b1 b2 b3, byteOf_three_le32 b0 b1 b2 b3⟩,
    le32_byteOf⟩

end Sys2Proof.Machine
end

section
/-! PROOFS. The invariant `Inv` of 10_state.md R44: every operation keeps it, so every step does. -/

namespace Sys2Proof.Machine

variable {s t : State}

/-! ### What the invariant says of an idle and of a running lane -/

/-- A lane that is neither busy nor faulted is idle. -/
theorem Inv.upc_idle (h : Inv s) (he : s.err = false) (hb : s.busy = false) : s.upc = .idle := by
  have hbusy := h.busyUpc
  have herr := h.errUpc
  cases hu : s.upc <;> simp_all [UPC.running]

/-- A lane whose engine has an event is not faulted. -/
theorem Inv.err_false (h : Inv s) (hr : s.upc.running = true) : s.err = false := by
  rw [← Bool.not_eq_true, h.errUpc]
  intro hf
  simp [hf, UPC.running] at hr

/-- The invariant does not depend on the agenda and the replies. -/
theorem Inv.with_agenda (h : Inv s) (ag : List Event) (rp : List Reply) :
    Inv { s with agenda := ag, replies := rp } := { h with }

/-- The invariant does not depend on the datapath and DVALID. -/
theorem Inv.with_datapath (h : Inv s) (hh w : Quad) (m : Vector Word 16) (dg : Vector Byte 16)
    (hx : Vector Byte 32) (dv : Bool) :
    Inv { s with h := hh, w := w, m := m, digest := dg, hex := hx, dvalid := dv } := { h with }

/-- NBLKF of a latched length fits R44.4's bound. -/
theorem nblkf_le (l : BitVec 61) : nblkf l.toNat ≤ 2 ^ 55 + 1 := by
  have := l.isLt
  unfold nblkf
  omega

/-! ### The ends of a micro-operation and the fault entry -/

/-- "-> IDLE" from an unfaulted lane where STEP is 0 and NBLK belongs to MLEN. -/
theorem Inv.toIdle (h : Inv s) (he : s.err = false) (hstep : s.stepCtr = 0)
    (hnblk : s.nblk = 0 ∨ s.nblk.toNat = nblkf s.mlen.toNat) : Inv (toIdle s) :=
  { h with
    busyUpc := rfl
    errUpc := by simp [he]
    autoBusy := by simp
    autoUpc := by simp
    stepZero := fun _ _ => hstep
    nblkValue := fun _ _ _ => hnblk
    chunkReady := by simp
    autoBlocks := by simp
    autoSerial := by simp }

/-- The successor `u` under AUTO keeps the invariant where what the invariant asks of a lane in `u`
holds; a single command ends in IDLE. -/
theorem Inv.handOver {u : UPC} (h : Inv s) (hr : s.upc.running = true) (hstep : s.stepCtr = 0)
    (hnblk : (s.auto = true → u ≠ .uRst) → s.nblk = 0 ∨ s.nblk.toNat = nblkf s.mlen.toNat)
    (hu : u.running = true ∧ u ≠ .uNop ∧ u ≠ .uHex)
    (hchunk : s.auto = true → u = .uChunk → s.blk.toNat < s.nblk.toNat)
    (hblocks : s.auto = true →
      u = .uChunk ∨ u = .uLoadw ∨ u = .uStep ∨ u = .uChain ∨ u = .uSerial → 1 ≤ s.nblk.toNat)
    (hserial : s.auto = true → u = .uSerial → s.last = true) : Inv (handOver u s) := by
  have he := h.err_false hr
  obtain ⟨hrun, hnop⟩ := hu
  cases ha : s.auto with
  | false =>
    rw [handOver_single u ha]
    exact h.toIdle he hstep (hnblk (by simp [ha]))
  | true =>
    rw [handOver_auto u ha]
    exact { h with
      busyUpc := h.busyUpc.trans (hr.trans hrun.symm)
      errUpc := by
        have : u ≠ .fault := by rintro rfl; cases hrun
        simp [he, this]
      autoUpc := fun _ => hnop
      stepZero := fun _ _ => hstep
      nblkValue := fun _ hrst _ => hnblk fun _ => hrst
      chunkReady := hchunk ha
      autoBlocks := hblocks
      autoSerial := hserial }

/-- Fault entry: R216's six assignments. -/
theorem Inv.raiseFault (h : Inv s) (f : LaneFault) : Inv (raiseFault f s) :=
  { h with
    busyUpc := rfl
    errUpc := by simp
    errCodeZero := by cases f <;> simp [LaneFault.code]
    errCodeRange := by cases f <;> simp [LaneFault.code]
    autoBusy := by simp
    autoUpc := by simp
    stepZero := by simp
    nblkValue := by simp
    chunkReady := by simp
    autoBlocks := by simp
    autoSerial := by simp }

/-! ### The micro-operations -/

/-- The micro-operations that always end in IDLE. -/
theorem Inv.toIdle_of_upc (h : Inv s) (hu : s.upc = .uNop ∨ s.upc = .uHex ∨ s.upc = .uSerial) :
    Inv (Machine.toIdle s) := by
  have hcontrol : s.upc.running = true ∧ s.upc ≠ .uStep ∧ s.upc ≠ .uRst ∧ s.upc ≠ .uInit := by
    rcases hu with hu | hu | hu <;> simp [hu, UPC.running]
  obtain ⟨hrun, hstep, hrst, hinit⟩ := hcontrol
  have he := h.err_false hrun
  exact h.toIdle he (h.stepZero he hstep) (h.nblkValue he hrst fun _ => hinit)

theorem Inv.microNop (h : Inv s) (hu : s.upc = .uNop) : Inv (microNop s) :=
  h.toIdle_of_upc (.inl hu)

theorem Inv.microHex (h : Inv s) (hu : s.upc = .uHex) : Inv (microHex s) :=
  (h.with_datapath s.h s.w s.m s.digest (hexString s.digest) s.dvalid).toIdle_of_upc
    (.inr (.inl hu))

theorem Inv.microSerial (h : Inv s) (hu : s.upc = .uSerial) : Inv (microSerial s) :=
  (h.with_datapath s.h s.w s.m (serialize s.h) s.hex true).toIdle_of_upc (.inr (.inr hu))

theorem Inv.microInit (h : Inv s) (hu : s.upc = .uInit) : Inv (microInit s) := by
  have he := h.err_false (by rw [hu]; rfl)
  apply Inv.handOver (s := { s with h := iv, dvalid := false }) { h with }
  case hr => simp [hu, UPC.running]
  case hstep => exact h.stepZero he (by simp [hu])
  case hnblk => exact fun hrst => h.nblkValue he (by simp [hu]) fun ha => absurd rfl (hrst ha)
  all_goals simp [UPC.running]

/-- U_RST makes NBLK belong to MLEN and starts the sequence at block 0 of at least one. -/
theorem Inv.microRst (h : Inv s) (hu : s.upc = .uRst) : Inv (microRst s) := by
  have he := h.err_false (by rw [hu]; rfl)
  have hle := nblkf_le s.mlen
  have hpos : 0 < nblkf s.mlen.toNat := Nat.succ_pos _
  have hnblk : (BitVec.ofNat 56 (nblkf s.mlen.toNat)).toNat = nblkf s.mlen.toNat :=
    Nat.mod_eq_of_lt (by omega)
  apply Inv.handOver
    (s := { s with nblk := BitVec.ofNat 56 (nblkf s.mlen.toNat), blk := 0, last := false })
  case h =>
    exact { h with
      blkLe := Nat.zero_le _
      nblkLe := hnblk.trans_le hle
      nblkValue := fun _ _ _ => .inr hnblk
      lastValue := rfl
      chunkReady := by simp [hu]
      autoBlocks := by simp [hu]
      autoSerial := by simp [hu] }
  case hr => simp [hu, UPC.running]
  case hstep => exact h.stepZero he (by simp [hu])
  case hnblk => exact fun _ => .inr hnblk
  case hchunk => exact fun _ _ => hpos.trans_eq hnblk.symm
  case hblocks => exact fun _ _ => hpos.trans_eq hnblk.symm
  all_goals simp [UPC.running]

/-- U_CHUNK moves BLK up by one, at most to NBLK because BLK < NBLK before (R134). -/
theorem Inv.microChunk (h : Inv s) (hu : s.upc = .uChunk) : Inv (microChunk s) := by
  have he := h.err_false (by rw [hu]; rfl)
  have hlt := h.chunkReady hu
  have hblk : (s.blk + 1).toNat = s.blk.toNat + 1 := by
    have := s.nblk.isLt
    show (s.blk.toNat + 1) % 2 ^ 56 = s.blk.toNat + 1
    omega
  have hnblk := h.nblkValue he (by simp [hu]) (by simp [hu])
  apply Inv.handOver (u := .uLoadw)
    (s := { s with
      m := blockAt (paddedByte s.mlen.toNat s.nblk.toNat (memRead s)) (64 * s.blk.toNat)
      last := decide (s.blk.toNat + 1 = s.nblk.toNat)
      blk := s.blk + 1
      upc := .uLoadw })
  case h =>
    exact { h with
      busyUpc := h.busyUpc.trans (by simp [hu, UPC.running])
      errUpc := by simp [he]
      autoUpc := by simp
      blkLe := hblk.trans_le hlt
      stepZero := fun _ _ => h.stepZero he (by simp [hu])
      nblkValue := fun _ _ _ => hnblk
      lastValue := by simp only [← BitVec.toNat_inj, hblk, Nat.le_add_left, true_and]
      chunkReady := by simp
      autoBlocks := fun _ _ => Nat.one_le_of_lt hlt
      autoSerial := by simp }
  case hr => rfl
  case hstep => exact h.stepZero he (by simp [hu])
  case hnblk => exact fun _ => hnblk
  case hblocks => exact fun _ _ => Nat.one_le_of_lt hlt
  all_goals simp [UPC.running]

theorem Inv.microLoadw (h : Inv s) (hu : s.upc = .uLoadw) : Inv (microLoadw s) := by
  have he := h.err_false (by rw [hu]; rfl)
  apply Inv.handOver (s := { s with w := s.h }) { h with }
  case hr => simp [hu, UPC.running]
  case hstep => exact h.stepZero he (by simp [hu])
  case hnblk => exact fun _ => h.nblkValue he (by simp [hu]) (by simp [hu])
  case hblocks => exact fun ha _ => h.autoBlocks ha (by simp [hu])
  all_goals simp [UPC.running]

/-- Under AUTO, U_CHAIN goes on to U_CHUNK exactly while blocks are left: with LAST = 0 and at least
one block, BLK is not yet NBLK. -/
theorem Inv.microChain (h : Inv s) (hu : s.upc = .uChain) : Inv (microChain s) := by
  have he := h.err_false (by rw [hu]; rfl)
  have hblocks : s.auto = true → 1 ≤ s.nblk.toNat := fun ha => h.autoBlocks ha (by simp [hu])
  apply Inv.handOver (s := { s with h := addQuad s.h s.w }) { h with }
  case hr => simp [hu, UPC.running]
  case hstep => exact h.stepZero he (by simp [hu])
  case hnblk => exact fun _ => h.nblkValue he (by simp [hu]) (by simp [hu])
  case hu => cases s.last <;> simp [UPC.running]
  case hchunk =>
    intro ha hnext
    have hlast : s.last = false := by
      cases hl : s.last
      · rfl
      · simp [hl] at hnext
    have hle := h.blkLe
    have hpos := hblocks ha
    have hval := h.lastValue
    rw [hlast, eq_comm, decide_eq_false_iff_not, ← BitVec.toNat_inj] at hval
    show s.blk.toNat < s.nblk.toNat
    omega
  case hblocks => exact fun ha _ => hblocks ha
  case hserial =>
    intro _ hnext
    cases hl : s.last
    · simp [hl] at hnext
    · rfl

/-- U_STEP: STEP wraps to 0 with the step that leaves the round. -/
theorem Inv.afterStep (h : Inv s) (hu : s.upc = .uStep) : Inv (afterStep s.stepCtr s) := by
  have he := h.err_false (by rw [hu]; rfl)
  by_cases h63 : s.stepCtr = 63
  · rw [h63, afterStep_last]
    apply Inv.handOver (s := { s with w := mixStep 63 s.m s.w, stepCtr := 0 })
      { h with stepZero := fun _ _ => rfl }
    case hr => simp [hu, UPC.running]
    case hstep => rfl
    case hnblk => exact fun _ => h.nblkValue he (by simp [hu]) (by simp [hu])
    case hblocks => exact fun ha _ => h.autoBlocks ha (by simp [hu])
    all_goals simp [UPC.running]
  · rw [afterStep_of_ne h63, ← hu]
    exact { h with stepZero := fun _ hne => absurd hu hne }

theorem Inv.afterEngine (h : Inv s) : Inv (afterEngine s) := by
  cases hu : s.upc
  case idle => rwa [afterEngine_idle hu]
  case fault => rwa [afterEngine_fault hu]
  case uNop => rw [afterEngine_uNop hu]; exact h.microNop hu
  case uInit => rw [afterEngine_uInit hu]; exact h.microInit hu
  case uRst => rw [afterEngine_uRst hu]; exact h.microRst hu
  case uChunk => rw [afterEngine_uChunk hu]; exact h.microChunk hu
  case uLoadw => rw [afterEngine_uLoadw hu]; exact h.microLoadw hu
  case uStep => rw [afterEngine_uStep hu]; exact h.afterStep hu
  case uChain => rw [afterEngine_uChain hu]; exact h.microChain hu
  case uSerial => rw [afterEngine_uSerial hu]; exact h.microSerial hu
  case uHex => rw [afterEngine_uHex hu]; exact h.microHex hu

/-! ### The host events -/

/-- A command that latches no length accepted, with what the invariant asks of a lane in `u`. -/
theorem Inv.accept {u : UPC} (h : Inv s) (he : s.err = false) (hb : s.busy = false)
    (hu : u.running = true) (hchunk : u = .uChunk → s.blk.toNat < s.nblk.toNat) :
    Inv (accept u false s) := by
  have hidle := h.upc_idle he hb
  exact { h with
    busyUpc := hu.symm
    errUpc := by
      have : u ≠ .fault := by rintro rfl; cases hu
      simp [he, this]
    autoBusy := fun _ => rfl
    autoUpc := by simp
    stepZero := fun _ _ => h.stepZero he (by simp [hidle])
    nblkValue := fun _ _ _ => h.nblkValue he (by simp [hidle]) (by simp [hidle])
    chunkReady := hchunk
    autoBlocks := by simp
    autoSerial := by simp }

/-- CHKRST and COMPUTE: the length they latch is legal, and U_RST is still to come. -/
theorem Inv.accept_latchLength {u : UPC} {auto : Bool} (h : Inv s) (he : s.err = false)
    (hb : s.busy = false) (hl : lenIllegal s = false)
    (hu : u = .uRst ∧ auto = false ∨ u = .uInit ∧ auto = true) :
    Inv (Machine.accept u auto (latchLength s)) := by
  obtain ⟨hbound, hcap⟩ := (lenIllegal_eq_false s).mp hl
  have hidle := h.upc_idle he hb
  have hmlen : (latchLength s).mlen.toNat ≤ msgCap s := (latchLength_toNat hbound).trans_le hcap
  have hstep := h.stepZero he (by simp [hidle])
  obtain ⟨rfl, rfl⟩ | ⟨rfl, rfl⟩ := hu
  all_goals exact { h with
    busyUpc := rfl
    errUpc := by simp [he]
    autoBusy := by simp
    autoUpc := by simp
    mlenLe := hmlen
    stepZero := fun _ _ => hstep
    nblkValue := by simp
    chunkReady := by simp
    autoBlocks := by simp
    autoSerial := by simp }

/-- A message byte stored inside the memory. -/
theorem Inv.memWrite (h : Inv s) {a : Nat} (b : Byte) (ha : a < msgCap s) : Inv (memWrite a b s) :=
  { h with
    memoryWf := store_wf s.msg a b h.memoryWf
    memoryBelow := store_below (msgCap s) s.msg a b h.memoryBelow ha }

/-- Reset leaves MSG alone and sets the rest to R45's values. -/
theorem inv_resetLane (hwf : Memory.wf s.msg = true)
    (hbelow : Memory.below (msgCap s) s.msg = true) : Inv (resetLane s) where
  busyUpc := rfl
  errUpc := by simp
  errCodeZero := by simp
  errCodeRange := by simp
  autoBusy := by simp
  autoUpc := by simp
  blkLe := by simp
  nblkLe := by simp
  mlenLe := by simp
  stepZero := by simp
  nblkValue := by simp
  lastValue := by simp
  chunkReady := by simp
  autoBlocks := by simp
  autoSerial := by simp
  memoryWf := hwf
  memoryBelow := hbelow

theorem Inv.hostEffect {e : HostEvent} (h : Inv s) (heff : HostEffect s e t) : Inv t := by
  cases heff with
  | regRead r => exact { h with }
  | msgRead a => exact { h with }
  | regIgnored r v _ => exact h
  | msgIgnored a b _ => exact h
  | regFaulted r v f _ _ => exact h.raiseFault f
  | msgFaulted a b _ _ _ => exact h.raiseFault .busy
  | lenLo v _ _ => exact { h with }
  | lenHi v _ _ => exact { h with }
  | msgStored a b ha _ _ => exact h.memWrite b ha
  | accepted v u he hb hu =>
    refine h.accept he hb ?_ ?_
    · rcases hu with rfl | rfl | ⟨rfl, -⟩ | rfl | rfl | rfl | rfl | rfl <;> rfl
    · rintro rfl
      have hne : s.blk ≠ s.nblk := by simpa using hu
      exact lt_of_le_of_ne h.blkLe (hne ∘ BitVec.eq_of_toNat_eq)
  | chkrst he hb hl => exact h.accept_latchLength he hb hl (by simp)
  | compute he hb hl => exact h.accept_latchLength he hb hl (by simp)
  | reset => exact inv_resetLane h.memoryWf h.memoryBelow

/-! ### Steps and runs -/

theorem Inv.step (h : Inv s) (hs : step s = .next t) : Inv t := by
  rcases step_cases hs with ⟨-, ag, rfl, -⟩ | ⟨e, rest, -, -, heff⟩ | ⟨rest, -, -, rfl⟩
  · exact (h.with_agenda ag s.replies).afterEngine
  · exact (h.with_agenda rest s.replies).hostEffect heff
  · obtain ⟨ag, rp, hw⟩ := waitEvent_frame { s with agenda := rest }
    rw [hw]
    exact h.with_agenda ag rp

/-- Settles O49: `Inv.afterEngine` for the engine's events, `Inv.hostEffect` for the host's. -/
theorem stepKeepsInvariant : Obligations.StepKeepsInvariant :=
  fun _ _ h hs => h.step hs

/-- Settles O50: after reset MSG lists nothing, and the rest is as the reset event leaves it. -/
theorem resetMeetsInvariant : Obligations.ResetMeetsInvariant := fun params powerUp agenda =>
  inv_resetLane (s := { State.reset with params := params, powerUp := powerUp, agenda := agenda })
    rfl rfl

/-- What every step keeps, every run keeps. -/
theorem Inv.runSteps {n : Nat} (h : Inv s) (hr : runSteps n s = .next t) : Inv t := by
  induction n generalizing s with
  | zero => cases hr; exact h
  | succ n ih =>
    cases hs : Machine.step s with
    | next u => exact ih (h.step hs) (runSteps_succ hs ▸ hr)
    | fault r => exact nomatch r
    | refused r => simp [Machine.runSteps, hs] at hr

/-- R44's six invariants, each read off the stronger one. -/
theorem Inv.specInvariants (h : Inv s) : SpecInvariants s where
  busyIff := by rw [h.busyUpc]; cases s.upc <;> simp [UPC.running]
  errIff := h.errUpc
  errCodeIff := h.errCodeZero
  autoBusy := h.autoBusy
  blocks := ⟨h.blkLe, h.nblkLe⟩
  length := le_min (Nat.le_pred_of_lt s.mlen.isLt) h.mlenLe
  atRest hb he := by
    have hidle := h.upc_idle he hb
    exact ⟨h.stepZero he (by simp [hidle]), h.nblkValue he (by simp [hidle]) (by simp [hidle])⟩
  lastBlock _ _ := by
    rw [h.lastValue]
    exact ⟨fun hpos => by simp [hpos], fun hzero => by simp [hzero]⟩

/-- Settles O51: the state after reset meets `Inv`, runs keep it, and it gives R44's six. -/
theorem invariantGivesSpecInvariants : Obligations.InvariantGivesSpecInvariants :=
  ⟨fun _ h => h.specInvariants, fun params powerUp agenda _ _ hr =>
    ((resetMeetsInvariant params powerUp agenda).runSteps hr).specInvariants⟩

end Sys2Proof.Machine
end

section
/-! PROOFS. The sequencer's successors (10_state.md R40) and the writers of every piece of state
(10_state.md R22 to R41), over every step. -/

namespace Sys2Proof.Machine

variable {s t : State}

/-! ### The sequencer -/

/-- Where a micro-operation whose successor under AUTO is `u` leaves the sequencer, whatever it
wrote before it handed over. -/
theorem handOver_control (u : UPC) (s : State) :
    (handOver u s).upc = (if s.auto then u else .idle) ∧
      (handOver u s).busy = (s.auto && s.busy) ∧ (handOver u s).auto = s.auto := by
  cases ha : s.auto
  · simp [handOver_single u ha]
  · simp [handOver_auto u ha, ha]

/-- Settles O23, by the value of UPC: each micro-operation ends in `toIdle`, in `handOver` of its
successor, or stays in U_STEP. -/
theorem sequencerSuccessors : Obligations.SequencerSuccessors := by
  intro s
  refine ⟨afterEngine s, engineEvent_eq s, ?_⟩
  cases hu : s.upc
  case idle => simp [afterEngine_idle hu]
  case fault => simp [afterEngine_fault hu]
  case uNop => simp [afterEngine_uNop hu, microNop]
  case uHex => simp [afterEngine_uHex hu, microHex]
  case uSerial => simp [afterEngine_uSerial hu, microSerial]
  case uStep =>
    by_cases h63 : s.stepCtr = 63
    · have hlast := afterEngine_uStep hu
      rw [h63, afterStep_last] at hlast
      simp +contextual [hlast, h63, handOver_control]
    · have hmid := (afterEngine_uStep hu).trans (afterStep_of_ne h63 s)
      simp [hmid, show s.stepCtr ≠ 63#6 from h63]
  case uInit => simp +contextual [afterEngine_uInit hu, microInit, handOver_control]
  case uRst => simp +contextual [afterEngine_uRst hu, microRst, handOver_control]
  case uChunk => simp +contextual [afterEngine_uChunk hu, microChunk, handOver_control]
  case uLoadw => simp +contextual [afterEngine_uLoadw hu, microLoadw, handOver_control]
  case uChain => simp +contextual [afterEngine_uChain hu, microChain, handOver_control]

/-! ### What each kind of event leaves unchanged -/

/-- `afterEngine_frame`, read field by field. -/
theorem afterEngine_writers (s : State) :
    ((afterEngine s).h ≠ s.h → s.upc = .uInit ∨ s.upc = .uChain) ∧
    ((afterEngine s).w ≠ s.w → s.upc = .uLoadw ∨ s.upc = .uStep) ∧
    ((afterEngine s).m ≠ s.m → s.upc = .uChunk) ∧
    ((afterEngine s).digest ≠ s.digest → s.upc = .uSerial) ∧
    ((afterEngine s).hex ≠ s.hex → s.upc = .uHex) ∧
    ((afterEngine s).nblk ≠ s.nblk → s.upc = .uRst) ∧
    ((afterEngine s).blk ≠ s.blk ∨ (afterEngine s).last ≠ s.last →
      s.upc = .uRst ∨ s.upc = .uChunk) ∧
    ((afterEngine s).stepCtr ≠ s.stepCtr → s.upc = .uStep) := by
  obtain ⟨_, _, _, _, _, _, _, _, _, _, _, _, _, heq, hh, hw, hm, hdigest, hhex, hnblk, hblk, hstep,
    -, -⟩ := afterEngine_frame s
  rw [heq]
  exact ⟨hh, hw, hm, hdigest, hhex, hnblk, hblk, hstep⟩

/-- DVALID after an engine event (R31). -/
theorem afterEngine_dvalid (s : State) :
    (afterEngine s).dvalid =
      if s.upc = .uSerial then true else if s.upc = .uInit then false else s.dvalid := by
  obtain ⟨_, _, _, _, _, _, _, _, _, _, _, _, _, heq, -, -, -, -, -, -, -, -, hdvalid, -⟩ :=
    afterEngine_frame s
  rw [heq]
  exact hdvalid

/-- What no engine event writes. -/
theorem afterEngine_untouched (s : State) :
    (afterEngine s).len = s.len ∧ (afterEngine s).mlen = s.mlen ∧ (afterEngine s).err = s.err ∧
      (afterEngine s).params = s.params ∧ (afterEngine s).powerUp = s.powerUp := by
  obtain ⟨_, _, _, _, _, _, _, _, _, _, _, _, _, heq, -⟩ := afterEngine_frame s
  simp [heq]

/-- What no host event but reset writes: the datapath, the chunker's state and STEP. -/
theorem HostEffect.frame {e : HostEvent} (h : HostEffect s e t) (he : e ≠ .reset) :
    t.h = s.h ∧ t.w = s.w ∧ t.m = s.m ∧ t.digest = s.digest ∧ t.hex = s.hex ∧ t.nblk = s.nblk ∧
      t.blk = s.blk ∧ t.last = s.last ∧ t.stepCtr = s.stepCtr := by
  cases h
  case reset => exact absurd rfl he
  all_goals simp

/-- No host event writes the parameters. -/
theorem HostEffect.params {e : HostEvent} (h : HostEffect s e t) :
    t.params = s.params ∧ t.powerUp = s.powerUp := by
  cases h <;> simp

/-- The writers of LEN (R35). -/
theorem HostEffect.len {e : HostEvent} (h : HostEffect s e t) (hlen : t.len ≠ s.len) :
    e = .reset ∨ ∃ v : Word, e = .wr 2 v ∨ e = .wr 3 v := by
  cases h
  case reset => exact .inl rfl
  case lenLo v _ _ => exact .inr ⟨v, .inl rfl⟩
  case lenHi v _ _ => exact .inr ⟨v, .inr rfl⟩
  all_goals simp at hlen

/-- The writers of MLEN (R37). -/
theorem HostEffect.mlen {e : HostEvent} (h : HostEffect s e t) (hmlen : t.mlen ≠ s.mlen) :
    e = .reset ∨ e = .wr 0 2 ∨ e = .wr 0 8 := by
  cases h
  case reset => exact .inl rfl
  case chkrst => exact .inr (.inl rfl)
  case compute => exact .inr (.inr rfl)
  all_goals simp at hmlen

/-- A host event other than reset leaves DVALID and ERR, or enters the fault state (R31, R216). -/
theorem HostEffect.dvalid {e : HostEvent} (h : HostEffect s e t) (he : e ≠ .reset) :
    t.dvalid = s.dvalid ∧ t.err = s.err ∨ t.dvalid = false ∧ s.err = false ∧ t.err = true := by
  cases h
  case reset => exact absurd rfl he
  case regFaulted herr => exact .inr ⟨rfl, herr, rfl⟩
  case msgFaulted herr _ => exact .inr ⟨rfl, herr, rfl⟩
  all_goals exact .inl ⟨rfl, rfl⟩

/-! ### The writers over one step -/

/-- Settles O28, by the kind of event: the engine's own fields, or a host event's frame. -/
theorem datapathWriters : Obligations.DatapathWriters := by
  intro s t hs
  rcases step_cases hs with ⟨hn, ag, rfl, -⟩ | ⟨e, rest, -, hn, heff⟩ | ⟨rest, -, -, rfl⟩
  · obtain ⟨hh, hw, hm, hdigest, hhex, -⟩ := afterEngine_writers { s with agenda := ag }
    exact ⟨fun h => .inr ⟨hn, hh h⟩, fun h => .inr ⟨hn, hw h⟩, fun h => .inr ⟨hn, hm h⟩,
      fun h => .inr ⟨hn, hdigest h⟩, fun h => .inr ⟨hn, hhex h⟩⟩
  · by_cases he : e = .reset
    · simp [hn, he]
    · obtain ⟨hh, hw, hm, hdigest, hhex, -⟩ := heff.frame he
      simp [hh, hw, hm, hdigest, hhex]
  · obtain ⟨_, _, hwait⟩ := waitEvent_frame { s with agenda := rest }
    simp [hwait]

/-- Settles O29, by the kind of event; LEN and MLEN are the host's, the others the engine's. -/
theorem controlStateWriters : Obligations.ControlStateWriters := by
  intro s t hs
  rcases step_cases hs with ⟨hn, ag, rfl, -⟩ | ⟨e, rest, -, hn, heff⟩ | ⟨rest, -, -, rfl⟩
  · obtain ⟨-, -, -, -, -, hnblk, hblk, hstep⟩ := afterEngine_writers { s with agenda := ag }
    obtain ⟨hlen, hmlen, -, hparams⟩ := afterEngine_untouched { s with agenda := ag }
    exact ⟨fun h => absurd hlen h, fun h => absurd hmlen h, fun h => .inr ⟨hn, hnblk h⟩,
      fun h => .inr ⟨hn, hblk h⟩, fun h => .inr ⟨hn, hstep h⟩, hparams⟩
  · simp only [hn, Event.host.injEq]
    refine ⟨heff.len, heff.mlen, ?_⟩
    by_cases he : e = .reset
    · simp [he, heff.params]
    · obtain ⟨-, -, -, -, -, hnblk, hblk, hlast, hstep⟩ := heff.frame he
      simp [hnblk, hblk, hlast, hstep, heff.params]
  · obtain ⟨_, _, hwait⟩ := waitEvent_frame { s with agenda := rest }
    simp [hwait]

/-- Settles O30: the engine writes DVALID in U_SERIAL and U_INIT and never ERR; a host event other
than reset writes it exactly at fault entry. -/
theorem dvalidChanges : Obligations.DvalidChanges := by
  intro s t hs
  rcases step_cases hs with ⟨hn, ag, rfl, -⟩ | ⟨e, rest, -, hn, heff⟩ | ⟨rest, -, hn, rfl⟩
  · obtain ⟨-, -, herr, -⟩ := afterEngine_untouched { s with agenda := ag }
    rw [afterEngine_dvalid, herr]
    by_cases hserial : s.upc = .uSerial
    · simp +contextual [hn, hserial]
    · by_cases hinit : s.upc = .uInit
      · simp [hn, hinit]
      · simp +contextual [hn, hserial, hinit]
  · by_cases he : e = .reset
    · subst he
      cases heff
      simp [hn]
    · rcases heff.dvalid he with ⟨hdvalid, herr⟩ | ⟨hdvalid, herr, herr'⟩
      · simp +contextual [hn, he, hdvalid, herr]
      · simp [hn, hdvalid, herr', show s.err = false from herr]
  · obtain ⟨_, _, hwait⟩ := waitEvent_frame { s with agenda := rest }
    rw [hwait]
    simp +contextual [hn]

end Sys2Proof.Machine
end

section
/-! PROOFS. What the registers read as (10_state.md R21 to R35) and the step rows in a run (R40). -/

namespace Sys2Proof.Machine

/-! ### The register space -/

/-- A register's two halves join to all 64 bits. -/
theorem len_halves (x : BitVec 64) : x.extractLsb' 32 32 ++ x.extractLsb' 0 32 = x := by
  rw [BitVec.extractLsb'_append_extractLsb'_eq_extractLsb' (show 32 = 0 + 32 from rfl)]
  exact BitVec.extractLsb'_eq_self

/-- The high register of a block counter is zero-extended. -/
theorem counter_halves (x : BitVec 56) :
    (x.extractLsb' 32 24).setWidth 32 ++ x.extractLsb' 0 32 = x.setWidth 64 := by
  apply BitVec.eq_of_toNat_eq
  have := x.isLt
  simp only [toNat_append_eq_add, BitVec.toNat_setWidth, BitVec.extractLsb'_toNat,
    Nat.shiftRight_eq_div_pow]
  omega

/-- Where the four bytes are there, the packed word is made of them. -/
theorem packedWord_eq {n : Nat} (v : Vector Byte n) (k : Nat) (h : 4 * k + 3 < n) :
    packedWord v k = le32 v[4 * k] v[4 * k + 1] v[4 * k + 2] v[4 * k + 3] := by
  have h0 : 4 * k < n := by omega
  have h1 : 4 * k + 1 < n := by omega
  have h2 : 4 * k + 2 < n := by omega
  simp only [packedWord, Vector.getElem?_eq_getElem, h, h0, h1, h2, Option.getD_some]

section byNumber

variable (s : State)

theorem regRead_digest (k : Fin 4) :
    regRead s (BitVec.ofNat 6 (12 + k.val)) = packedWord s.digest k := by
  fin_cases k <;> rfl

theorem regRead_m (k : Fin 16) : regRead s (BitVec.ofNat 6 (16 + k.val)) = s.m[k] := by
  fin_cases k <;> rfl

theorem regRead_hex (k : Fin 8) :
    regRead s (BitVec.ofNat 6 (32 + k.val)) = packedWord s.hex k := by
  fin_cases k <;> rfl

theorem regRead_reserved {r : BitVec 6} (h : 40 ≤ r.toNat) : regRead s r = 0 := by
  have ne (k : Nat) (hk : k < 40) : r.toNat ≠ k := by omega
  have not_lt (k : Nat) (hk : k ≤ 40) : ¬ r.toNat < k := by omega
  simp [regRead, ne, not_lt]

end byNumber

/-- Settles O36, by the ranges of register numbers. -/
theorem registerReadMap : Obligations.RegisterReadMap := fun s =>
  ⟨rfl, rfl, len_halves s.len, counter_halves s.nblk, counter_halves s.blk, rfl, rfl, rfl, rfl,
    fun k => (regRead_digest s k).trans (packedWord_eq s.digest k (by omega)),
    regRead_m s,
    fun k => (regRead_hex s k).trans (packedWord_eq s.hex k (by omega)),
    fun _ => regRead_reserved s⟩

/-- Settles O42: no arm of a register or message read names one of the five. -/
theorem hiddenStateIsNotReadable : Obligations.HiddenStateIsNotReadable :=
  fun _ _ _ _ _ _ => ⟨fun _ => rfl, fun _ => rfl⟩

/-! ### STATUS -/

theorem flagBit_toNat (f : Bool) : (flagBit 32 f).toNat = f.toNat := by
  cases f <;> rfl

/-- A flag put at bit k, below everything there so far, adds its weight. -/
theorem or_flagBit_toNat (x : Word) (f : Bool) {k : Nat} (hk : k < 32)
    (hx : x.toNat % 2 ^ (k + 1) = 0) :
    (x ||| flagBit 32 f <<< k).toNat = x.toNat + f.toNat * 2 ^ k := by
  have hlt : f.toNat * 2 ^ k < 2 ^ (k + 1) := by
    rw [Nat.pow_succ, Nat.mul_comm]
    exact Nat.mul_lt_mul_of_pos_left f.toNat_lt (by positivity)
  have hflag : (flagBit 32 f <<< k).toNat = f.toNat * 2 ^ k := by
    rw [BitVec.toNat_shiftLeft, flagBit_toNat, Nat.shiftLeft_eq]
    exact Nat.mod_eq_of_lt (hlt.trans_le (Nat.pow_le_pow_right (by decide) hk))
  rw [BitVec.toNat_or, hflag, ← Nat.div_add_mod x.toNat (2 ^ (k + 1)), hx, Nat.add_zero,
    Nat.two_pow_add_eq_or_of_lt hlt]

/-- ERRCODE alone, at bits 11:8. -/
theorem errCode_shift_toNat (c : BitVec 4) : (c.setWidth 32 <<< 8).toNat = c.toNat * 2 ^ 8 := by
  have := c.isLt
  simp only [BitVec.toNat_shiftLeft, BitVec.toNat_setWidth, Nat.shiftLeft_eq]
  omega

/-- R29's sum: STATUS is put together from its highest field down. -/
theorem status_toNat (s : State) :
    (status s).toNat = s.errCode.toNat * 2 ^ 8 + s.err.toNat * 2 ^ 4 + (chkdone s).toNat * 2 ^ 3 +
      s.last.toNat * 2 ^ 2 + s.dvalid.toNat * 2 ^ 1 + s.busy.toNat * 2 ^ 0 := by
  have hcode := errCode_shift_toNat s.errCode
  have herr := or_flagBit_toNat _ s.err (k := 4) (by decide) (by rw [hcode]; omega)
  have hdone := or_flagBit_toNat _ (chkdone s) (k := 3) (by decide) (by rw [herr, hcode]; omega)
  have hlast := or_flagBit_toNat _ s.last (k := 2) (by decide) (by rw [hdone, herr, hcode]; omega)
  have hdvalid := or_flagBit_toNat _ s.dvalid (k := 1) (by decide)
    (by rw [hlast, hdone, herr, hcode]; omega)
  have hbusy := or_flagBit_toNat _ s.busy (k := 0) (by decide)
    (by rw [hdvalid, hlast, hdone, herr, hcode]; omega)
  rw [BitVec.shiftLeft_zero] at hbusy
  rw [status, hbusy, hdvalid, hlast, hdone, herr, hcode]

/-- CHKDONE, as the comparison that R33 writes. -/
theorem chkdone_eq_decide (s : State) : chkdone s = decide (s.blk = s.nblk) := rfl

/-- A field of STATUS, read off the sum: what lies below it is dropped, what lies above is cut. -/
theorem status_field_toNat (s : State) (start len : Nat) :
    ((status s).extractLsb' start len).toNat =
      (s.errCode.toNat * 2 ^ 8 + s.err.toNat * 2 ^ 4 + (chkdone s).toNat * 2 ^ 3 +
        s.last.toNat * 2 ^ 2 + s.dvalid.toNat * 2 ^ 1 + s.busy.toNat * 2 ^ 0) / 2 ^ start
        % 2 ^ len := by
  rw [BitVec.extractLsb'_toNat, status_toNat, Nat.shiftRight_eq_div_pow]

/-- The fields of STATUS above its five flags. -/
theorem status_fields (s : State) :
    (status s).extractLsb' 5 3 = 0 ∧ (status s).extractLsb' 8 4 = s.errCode ∧
      (status s).extractLsb' 12 20 = 0 := by
  have hcode := s.errCode.isLt
  have herr := s.err.toNat_le
  have hdone := (chkdone s).toNat_le
  have hlast := s.last.toNat_le
  have hdvalid := s.dvalid.toNat_le
  have hbusy := s.busy.toNat_le
  simp only [← BitVec.toNat_inj, status_field_toNat, BitVec.ofNat_eq_ofNat,
    BitVec.toNat_ofNat]
  omega

/-- The five flags at bits 4 to 0. -/
theorem status_flags (s : State) :
    (status s).getLsbD 0 = s.busy ∧ (status s).getLsbD 1 = s.dvalid ∧
      (status s).getLsbD 2 = s.last ∧ (status s).getLsbD 3 = chkdone s ∧
      (status s).getLsbD 4 = s.err := by
  simp [status, flagBit]

/-- Settles O37: the sum, the flags, the fields, and a write that no arm of R197 takes. -/
theorem statusLayout : Obligations.StatusLayout := by
  intro s
  obtain ⟨hbusy, hdvalid, hlast, hdone, herr⟩ := status_flags s
  obtain ⟨hzero, hcode, hhigh⟩ := status_fields s
  refine ⟨rfl, ?_, hbusy, hdvalid, hlast, hdone, herr, hzero, hcode, hhigh, fun _ => rfl⟩
  simpa [chkdone_eq_decide] using status_toNat s

/-! ### LEN and DIGEST -/

section setLen

variable {s : State} {rest : List Event} {v : Word}

theorem step_lenLo (hb : s.busy = false) (he : s.err = false)
    (ha : s.agenda = .host (.wr 2 v) :: rest) :
    step s = .next (setLenLo v { s with agenda := rest }) :=
  (step_host ha).trans (congrArg Host.Outcome.next (guardWrite_idle (setLenLo v) he hb))

theorem step_lenHi (hb : s.busy = false) (he : s.err = false)
    (ha : s.agenda = .host (.wr 3 v) :: rest) :
    step s = .next (setLenHi v { s with agenda := rest }) :=
  (step_host ha).trans (congrArg Host.Outcome.next (guardWrite_idle (setLenHi v) he hb))

/-- The two writes of SETLEN replace both halves of LEN. -/
theorem setLenHi_setLenLo (n : BitVec 64) (s : State) :
    setLenHi (n.extractLsb' 32 32) (setLenLo (n.extractLsb' 0 32) s) = { s with len := n } := by
  rw [setLenHi, setLenLo_len, BitVec.extractLsb'_append_eq_right, len_halves]
  rfl

end setLen

/-- Settles O39: each write replaces one half of LEN, and SETLEN is the two writes in a row. -/
theorem lengthRegisterHalves : Obligations.LengthRegisterHalves := by
  intro s rest hb he
  refine ⟨fun v ha => ⟨_, step_lenLo hb he ha, ?_, ?_, rfl⟩,
    fun v ha => ⟨_, step_lenHi hb he ha, ?_, ?_, rfl⟩, fun n => ?_⟩
  · exact BitVec.extractLsb'_append_eq_right
  · exact BitVec.extractLsb'_append_eq_left
  · exact BitVec.extractLsb'_append_eq_left
  · exact BitVec.extractLsb'_append_eq_right
  · calc runSteps 2 { s with agenda := setLenEvents n ++ rest }
        = runSteps 1 (setLenLo (n.extractLsb' 0 32)
            { s with agenda := .host (.wr 3 (n.extractLsb' 32 32)) :: rest }) :=
          runSteps_succ (step_lenLo hb he rfl)
      _ = runSteps 0 (setLenHi (n.extractLsb' 32 32)
            (setLenLo (n.extractLsb' 0 32) { s with agenda := rest })) :=
          runSteps_succ (step_lenHi hb he rfl)
      _ = .next { s with agenda := rest, len := n } := by
          rw [runSteps_zero, setLenHi_setLenLo]

/-- Packing the bytes of R175 gives back the words they are taken from. -/
theorem packedWord_serialize (h : Quad) :
    packedWord (serialize h) 0 = h.a ∧ packedWord (serialize h) 1 = h.b ∧
      packedWord (serialize h) 2 = h.c ∧ packedWord (serialize h) 3 = h.d :=
  ⟨le32_byteOf h.a, le32_byteOf h.b, le32_byteOf h.c, le32_byteOf h.d⟩

/-- Settles O48: registers 12 to 15 are the packed words of DIGEST, which U_SERIAL makes from H. -/
theorem digestRegistersShowTheState : Obligations.DigestRegistersShowTheState := by
  intro s hu
  have hrun : engineEvent s = .next (microSerial s) := by
    rw [engineEvent_eq, afterEngine_uSerial hu]
  exact ⟨microSerial s, hrun, rfl, packedWord_serialize s.h⟩

/-! ### The step rows in a run -/

/-- The engine's turn in U_STEP is the row that STEP selects (R93). -/
theorem engineEvent_uStep {s : State} (hu : s.upc = .uStep) :
    engineEvent s = exec (stepInstr s.stepCtr) s := by
  simp [engineEvent, hu]

/-- Settles O56: both decoders of STEP select by `stepInstr`. -/
theorem stepRunsTheStepRow : Obligations.StepRunsTheStepRow := by
  refine ⟨fun s i rest hu hd => ?_, fun s w i hd => ?_⟩
  · cases hd
    refine ⟨fun ha => ?_, fun ha => ?_⟩
    · simp only [step, ha, runEvent]
      exact engineEvent_uStep (s := { s with agenda := rest }) hu
    · simp only [step, ha]
      exact engineEvent_uStep hu
  · cases hd
    exact engineEvent_uStep
      (s := { s with upc := .uStep, busy := true, stepCtr := BitVec.ofNat 6 w }) rfl

end Sys2Proof.Machine
end

section
/-! PROOFS. The message memory and the engine (20_memory.md R64 to R67, R70): who writes a byte, who
reads one, and that reads disturb nothing. -/

namespace Sys2Proof.Machine

variable {s t : State}

/-! ### Who writes a message byte -/

/-- What `MR` returns is a matter of MSG, the capacity and the power-up alone. -/
theorem msgRead_congr (a : BitVec 61) (hmsg : t.msg = s.msg) (hparams : t.params = s.params)
    (hpowerUp : t.powerUp = s.powerUp) : msgRead t a = msgRead s a := by
  unfold msgRead memRead msgCap
  rw [hmsg, hparams, hpowerUp]

/-- A stored byte is read back at its own address only. -/
theorem msgRead_memWrite_other {a a' : BitVec 61} (b : Byte) (s : State) (h : a' ≠ a) :
    msgRead (memWrite a.toNat b s) a' = msgRead s a' := by
  have hne : a'.toNat ≠ a.toNat := h ∘ BitVec.eq_of_toNat_eq
  simp only [msgRead, memRead_memWrite_other b s hne]
  rfl

/-- The engine has no store (R64). -/
@[simp] theorem afterEngine_msg (s : State) : (afterEngine s).msg = s.msg := by
  obtain ⟨_, _, _, _, _, _, _, _, _, _, _, _, _, heq, -⟩ := afterEngine_frame s
  rw [heq]

theorem msgRead_afterEngine (s : State) (a : BitVec 61) :
    msgRead (afterEngine s) a = msgRead s a := by
  obtain ⟨-, -, -, hparams, hpowerUp⟩ := afterEngine_untouched s
  exact msgRead_congr a (afterEngine_msg s) hparams hpowerUp

/-- A message write is the only host event that changes MSG, reset included (R65, R67). -/
theorem HostEffect.msg {e : HostEvent} (h : HostEffect s e t) :
    t.msg = s.msg ∨ ∃ a b, e = .mw a b ∧ t = memWrite a.toNat b s := by
  cases h
  case msgStored a b _ _ _ => exact .inr ⟨a, b, rfl, rfl⟩
  all_goals exact .inl rfl

/-- Settles O31, by the kind of event: the engine stores nothing, and of the host's events only a
message write stores, at the address it names. -/
theorem messageBytesStayUntilOverwritten : Obligations.MessageBytesStayUntilOverwritten := by
  intro s t a hs hmw
  rcases step_cases hs with ⟨-, ag, rfl, -⟩ | ⟨e, rest, -, hn, heff⟩ | ⟨rest, -, -, rfl⟩
  · exact msgRead_afterEngine { s with agenda := ag } a
  · rcases heff.msg with hmsg | ⟨a', b, rfl, rfl⟩
    · obtain ⟨hparams, hpowerUp⟩ := heff.params
      exact msgRead_congr a hmsg hparams hpowerUp
    · have hne : a ≠ a' := by
        rintro rfl
        exact hmw b hn
      exact msgRead_memWrite_other b { s with agenda := rest } hne
  · obtain ⟨_, _, hwait⟩ := waitEvent_frame { s with agenda := rest }
    rw [hwait]
    rfl

/-! ### Who reads a message byte -/

/-- The padded stream takes its content from positions below the length only (R130). -/
theorem paddedByte_congr {l p : Nat} (blocks : Nat) {content content' : Nat → Byte}
    (h : p < l → content p = content' p) :
    paddedByte l blocks content p = paddedByte l blocks content' p := by
  unfold paddedByte
  split
  · exact h ‹p < l›
  · rfl

/-- A block is made of the 64 bytes from its base on. -/
theorem blockAt_congr {stream stream' : Nat → Byte} {base : Nat}
    (h : ∀ p, base ≤ p → p < base + 64 → stream p = stream' p) :
    blockAt stream base = blockAt stream' base := by
  unfold blockAt
  congr 1
  funext k
  have := k.isLt
  rw [h (base + 4 * k.val) (by omega) (by omega), h (base + 4 * k.val + 1) (by omega) (by omega),
    h (base + 4 * k.val + 2) (by omega) (by omega), h (base + 4 * k.val + 3) (by omega) (by omega)]

theorem handOver_m (u : UPC) (s : State) : (handOver u s).m = s.m := by
  obtain ⟨_, _, _, heq⟩ := handOver_frame u s
  rw [heq]

/-- The block that U_CHUNK makes (R134). -/
theorem microChunk_m (s : State) :
    (microChunk s).m =
      blockAt (paddedByte s.mlen.toNat s.nblk.toNat (memRead s)) (64 * s.blk.toNat) := by
  rw [microChunk, handOver_m]

/-- The end of a micro-operation neither reads nor writes the memory. -/
theorem handOver_memory (u : UPC) (s : State) (mem : Memory) (k : Nat) :
    handOver u { s with msg := mem, powerUp := k } =
      { handOver u s with msg := mem, powerUp := k } := by
  rcases Bool.eq_false_or_eq_true s.auto with ha | ha
  · rw [handOver_auto u ha]
    exact handOver_auto u ha
  · rw [handOver_single u ha]
    exact handOver_single u ha

theorem afterStep_memory (i : BitVec 6) (s : State) (mem : Memory) (k : Nat) :
    afterStep i { s with msg := mem, powerUp := k } =
      { afterStep i s with msg := mem, powerUp := k } := by
  by_cases h63 : i = 63
  · rw [h63, afterStep_last, afterStep_last]
    exact handOver_memory .uChain { s with w := mixStep 63 s.m s.w, stepCtr := 0 } mem k
  · rw [afterStep_of_ne h63, afterStep_of_ne h63]

/-- Every micro-operation but U_CHUNK does the same over any memory. -/
theorem afterEngine_memory (mem : Memory) (k : Nat) (hu : s.upc ≠ .uChunk) :
    afterEngine { s with msg := mem, powerUp := k } =
      { afterEngine s with msg := mem, powerUp := k } := by
  cases h : s.upc <;> simp only [afterEngine, h]
  case uChunk => exact absurd h hu
  case uNop => rfl
  case uSerial => rfl
  case uHex => rfl
  case uStep => exact afterStep_memory s.stepCtr s mem k
  case uInit => exact handOver_memory _ { s with h := iv, dvalid := false } mem k
  case uRst =>
    exact handOver_memory _
      { s with nblk := BitVec.ofNat 56 (nblkf s.mlen.toNat), blk := 0, last := false } mem k
  case uLoadw => exact handOver_memory _ { s with w := s.h } mem k
  case uChain => exact handOver_memory _ { s with h := addQuad s.h s.w } mem k

/-- Settles O45: U_CHUNK's block by the congruences of `blockAt` and `paddedByte`, the other
micro-operations by `afterEngine_memory`. -/
theorem chunkerReadsOnlyTheMessage : Obligations.ChunkerReadsOnlyTheMessage := by
  refine ⟨?_, fun s p hlen hp => hp.trans_le hlen, ?_⟩
  · intro s s' t t' hu hu' hmlen hnblk hblk hbytes ht ht'
    rw [engineEvent_eq, afterEngine_uChunk hu] at ht
    rw [engineEvent_eq, afterEngine_uChunk hu'] at ht'
    cases ht
    cases ht'
    rw [microChunk_m, microChunk_m, ← hmlen, ← hnblk, ← hblk]
    exact blockAt_congr fun p hlow hhigh => paddedByte_congr _ (hbytes p hlow hhigh)
  · intro s t mem k hu ht
    rw [engineEvent_eq] at ht ⊢
    cases ht
    rw [afterEngine_memory mem k hu]

/-! ### Reads among the engine's events -/

/-- The engine's turn, whatever is listed after it and whatever reads have returned. -/
theorem step_engine_with (s : State) (rest : List Event) (rp : List Reply) :
    step { s with agenda := .engine :: rest, replies := rp } =
      .next { afterEngine s with agenda := rest, replies := rp } := by
  rw [step_engine rfl, afterEngine_agenda s rest rp]

/-- A read changes the replies only (R65). -/
theorem step_read {e : Event} (h : (∃ r, e = .host (.rd r)) ∨ ∃ a, e = .host (.mr a))
    (s : State) (rest : List Event) :
    ∃ r, step { s with agenda := e :: rest } = .next { answer r s with agenda := rest } := by
  rcases h with ⟨r, rfl⟩ | ⟨a, rfl⟩
  · exact ⟨_, rfl⟩
  · exact ⟨_, rfl⟩

/-- The engine's turns alone, from the same lane with any replies, end in the same lane with those
replies: the form over all replies that the induction needs. -/
theorem runSteps_engine_turns (rest : List Event) (rp : List Reply) (events : List Event)
    (h : ∀ e ∈ events, e = .engine ∨ (∃ r, e = .host (.rd r)) ∨ ∃ a, e = .host (.mr a))
    (hrun : runSteps events.length { s with agenda := events ++ rest } = .next t) :
    runSteps (events.count .engine)
      { s with
        agenda := List.replicate (events.count .engine) .engine ++ rest
        replies := rp } = .next { t with replies := rp } := by
  induction events generalizing s with
  | nil =>
    cases hrun
    rfl
  | cons e es ih =>
    obtain ⟨he, hes⟩ := List.forall_mem_cons.mp h
    rcases he with rfl | hread
    · rw [List.length_cons, List.cons_append,
        runSteps_succ (step_engine_with s (es ++ rest) s.replies)] at hrun
      rw [List.count_cons_self, List.replicate_succ, List.cons_append,
        runSteps_succ (step_engine_with s _ rp)]
      exact ih (s := { afterEngine s with replies := s.replies }) hes hrun
    · obtain ⟨r, hstep⟩ := step_read hread s (es ++ rest)
      have hne : e ≠ .engine := by rcases hread with ⟨r, rfl⟩ | ⟨a, rfl⟩ <;> simp
      rw [List.length_cons, List.cons_append, runSteps_succ hstep] at hrun
      rw [List.count_cons_of_ne hne]
      exact ih (s := answer r s) hes hrun

/-- Settles O53: `runSteps_engine_turns` with the replies the run began with. -/
theorem readsDoNotDisturbTheEngine : Obligations.ReadsDoNotDisturbTheEngine :=
  fun events rest s _ h hrun => runSteps_engine_turns rest s.replies events h hrun

end Sys2Proof.Machine
end

section
/-! PROOFS. The encoding (30_encoding.md): the decoder and the encoder are mutually inverse, the
illegal command words, and the operands that STEP selects. -/

namespace Sys2Proof.Machine

/-! ### Decoding is inverse to encoding -/

@[simp] theorem decode_encode (i : Instr) : decode (encode i) = .ok i := by cases i <;> rfl

/-- No bit of the source is dropped: it is recovered from the instruction alone. -/
theorem eq_encode_of_decode {src : Source} {i : Instr} (h : decode src = .ok i) :
    src = encode i := by
  cases src with
  | cmdWord v => exact (encode_of_decodeCommand h).symm
  | stepCounter k =>
    cases h
    exact (encode_stepInstr k).symm

theorem decode_eq_ok_iff {src : Source} {i : Instr} : decode src = .ok i ↔ src = encode i :=
  ⟨eq_encode_of_decode, fun h => h ▸ decode_encode i⟩

/-- Settles O1: `decode_encode` one way, `eq_encode_of_decode` the other. -/
theorem decodeExactlyEncode : Obligations.DecodeExactlyEncode := fun _ _ => decode_eq_ok_iff

/-! ### Illegal command words -/

/-- R94's two checks leave exactly the numbers 0 to 9. -/
theorem legalWord_iff_lt (v : Word) :
    v.extractLsb' 8 24 = 0 ∧ (v.extractLsb' 0 8).toNat ≤ 0x09 ↔ v.toNat < 10 := by
  have hv := v.isLt
  simp only [← BitVec.toNat_inj, BitVec.extractLsb'_toNat, Nat.shiftRight_eq_div_pow,
    BitVec.ofNat_eq_ofNat, BitVec.toNat_ofNat]
  omega

/-- The encoder gives out no command word past the opcode map (R91). -/
theorem lt_of_encode_eq_cmdWord {i : Instr} {v : Word} (h : encode i = .cmdWord v) :
    v.toNat < 10 := by
  cases i <;> cases h <;> decide

/-- The opcode map has a row for each of the numbers 0 to 9 (R91). -/
theorem exists_decode_of_lt {v : Word} (h : v.toNat < 10) : ∃ i, decode (.cmdWord v) = .ok i := by
  rw [← BitVec.setWidth_eq v, ← BitVec.ofNat_toNat]
  interval_cases v.toNat <;> exact ⟨_, rfl⟩

theorem exists_decode_iff_lt (v : Word) :
    (∃ i, decode (.cmdWord v) = .ok i) ↔ v.toNat < 10 :=
  ⟨fun ⟨_, h⟩ => lt_of_encode_eq_cmdWord (eq_encode_of_decode h).symm, exists_decode_of_lt⟩

/-- A write of a word that names no command passes a write's tests and then faults (R211, R215). -/
theorem cmdWrite_illegal {v : Word} (h : ¬ ∃ i, decode (.cmdWord v) = .ok i) (s : State) :
    cmdWrite v s = .next (guardWrite (raiseFault .illCmd) s) := by
  unfold cmdWrite
  split
  next i hi => exact absurd ⟨i, hi⟩ h
  next => rfl

/-- Settles O2: the legal words by `legalWord_iff_lt` and `exists_decode_iff_lt`, the write by
`cmdWrite_illegal` on an idle lane. -/
theorem illegalCommandWords : Obligations.IllegalCommandWords := by
  have hlegal (v : Word) := (exists_decode_iff_lt v).trans (legalWord_iff_lt v).symm
  refine ⟨hlegal, exists_decode_iff_lt, fun v s rest hagenda hbusy herr hv => ?_⟩
  calc step s
      = cmdWrite v { s with agenda := rest } := step_host hagenda
    _ = .next (guardWrite (raiseFault .illCmd) { s with agenda := rest }) :=
        cmdWrite_illegal (mt (hlegal v).mp hv) _
    _ = .next (raiseFault .illCmd { s with agenda := rest }) :=
        congrArg _ (guardWrite_idle _ herr hbusy)

/-- Settles O3: nine instances of the round trip, and one word for each check of R94. -/
theorem sampleBitsDecode : Obligations.SampleBitsDecode :=
  ⟨decode_encode .nop, decode_encode .chkrst, decode_encode .round, decode_encode .compute,
    decode_encode .hexfmt, decode_encode .ustep0, decode_encode .ustep16, decode_encode .ustep47,
    decode_encode .ustep63, rfl, rfl⟩

/-! ### Step selection -/

section quartiles

variable {i : BitVec 6}

theorem wordIndex_quartile0 (h : i.toNat < 16) : wordIndex i = i.toNat :=
  (wordIndex_eq i).trans (if_pos h)

theorem wordIndex_quartile1 (h16 : 16 ≤ i.toNat) (h32 : i.toNat < 32) :
    wordIndex i = (5 * i.toNat + 1) % 16 := by
  rw [wordIndex_eq, if_neg h16.not_gt, if_pos h32]

theorem wordIndex_quartile2 (h32 : 32 ≤ i.toNat) (h48 : i.toNat < 48) :
    wordIndex i = (3 * i.toNat + 5) % 16 := by
  rw [wordIndex_eq, if_neg (by omega), if_neg h32.not_gt, if_pos h48]

theorem wordIndex_quartile3 (h48 : 48 ≤ i.toNat) : wordIndex i = (7 * i.toNat) % 16 := by
  rw [wordIndex_eq, if_neg (by omega), if_neg (by omega), if_neg h48.not_gt]

end quartiles

/-- The step of quartile q, counted from 0 within it, that reads M[g]. R93's g is a multiple of the
step plus a constant, modulo 16, and the multipliers 1, 5, 3, 7 have the inverses 1, 13, 11, 7. -/
def stepReadingWord (q g : Nat) : Nat :=
  match q with
  | 0 => g
  | 1 => (13 * g + 3) % 16
  | 2 => (11 * g + 9) % 16
  | _ => (7 * g) % 16

theorem stepReadingWord_lt (q : Nat) {g : Nat} (hg : g < 16) : stepReadingWord q g < 16 := by
  unfold stepReadingWord
  split
  · exact hg
  all_goals exact Nat.mod_lt _ (by decide)

/-- R113's permutation: within a quartile, step and message word determine each other. -/
theorem wordIndex_eq_iff {q j g : Nat} (hq : q < 4) (hj : j < 16) (hg : g < 16) :
    wordIndex (BitVec.ofNat 6 (16 * q + j)) = g ↔ j = stepReadingWord q g := by
  have hi : (BitVec.ofNat 6 (16 * q + j)).toNat = 16 * q + j := Nat.mod_eq_of_lt (by omega)
  interval_cases q <;> simp only [stepReadingWord]
  · rw [wordIndex_quartile0 (by omega), hi]
    omega
  · rw [wordIndex_quartile1 (by omega) (by omega), hi]
    omega
  · rw [wordIndex_quartile2 (by omega) (by omega), hi]
    omega
  · rw [wordIndex_quartile3 (by omega), hi]
    omega

/-- R112's table, entry by entry. -/
theorem rotateAmount_eq (i : BitVec 6) : some (rotateAmount i) =
    ([7, 12, 17, 22, 7, 12, 17, 22, 7, 12, 17, 22, 7, 12, 17, 22] ++
      [5, 9, 14, 20, 5, 9, 14, 20, 5, 9, 14, 20, 5, 9, 14, 20] ++
      [4, 11, 16, 23, 4, 11, 16, 23, 4, 11, 16, 23, 4, 11, 16, 23] ++
      [6, 10, 15, 21, 6, 10, 15, 21, 6, 10, 15, 21, 6, 10, 15, 21])[i.toNat]? := by
  revert i
  decide

/-- Settles O4: q by definition, g by its quartile's formula, S by `rotateAmount_eq`, and each word
read by the one step `stepReadingWord`. -/
theorem stepSelection : Obligations.StepSelection :=
  ⟨fun _ => ⟨rfl, wordIndex_quartile0, wordIndex_quartile1, wordIndex_quartile2,
      wordIndex_quartile3⟩,
    rotateAmount_eq,
    fun q g hq hg => ⟨stepReadingWord q g, stepReadingWord_lt q hg,
      (wordIndex_eq_iff hq (stepReadingWord_lt q hg) hg).mpr rfl,
      fun _ hj => (wordIndex_eq_iff hq hj hg).mp⟩⟩

end Sys2Proof.Machine
end

section
/-! PROOFS. The block chunker (41_chunker.md): the block count, the padded stream and its blocks,
and the commands CHKRST and CHKNXT. -/

namespace Sys2Proof.Machine

/-! ### The block count (R130) -/

/-- Content, terminator and length field fit into the blocks. -/
theorem add_nine_le_nblkf (l : Nat) : l + 9 ≤ 64 * nblkf l := by
  unfold nblkf
  omega

/-- No smaller number of blocks holds them. -/
theorem nblkf_le_of_add_nine_le {l n : Nat} (h : l + 9 ≤ 64 * n) : nblkf l ≤ n := by
  unfold nblkf
  omega

/-- The counter NBLK holds the block count of every legal length (R36). -/
theorem ofNat_nblkf_toNat {l : Nat} (hl : l < 2 ^ 61) :
    (BitVec.ofNat 56 (nblkf l)).toNat = nblkf l := by
  apply Nat.mod_eq_of_lt
  unfold nblkf
  omega

/-- Settles O43: the count is enough, nothing smaller is, and it fits the counter. -/
theorem blockCountIsSmallest : Obligations.BlockCountIsSmallest :=
  ⟨fun l => ⟨add_nine_le_nblkf l, fun _ => nblkf_le_of_add_nine_le⟩,
    fun _ => ofNat_nblkf_toNat, rfl⟩

/-! ### The padded stream, by the four conditions of R130 -/

section stream

variable {l p : Nat} (blocks : Nat) (content : Nat → Byte)

theorem paddedByte_content (h : p < l) : paddedByte l blocks content p = content p :=
  if_pos h

theorem paddedByte_terminator (l : Nat) : paddedByte l blocks content l = 0x80 := by
  simp [paddedByte]

theorem paddedByte_zero (h : l < p) (ht : p < 64 * blocks - 8) :
    paddedByte l blocks content p = 0x00 := by
  simp [paddedByte, h.not_gt, h.ne', ht]

/-- The length field starts past the terminator, so no earlier condition holds in it. -/
theorem paddedByte_length (h : 64 * nblkf l - 8 ≤ p) :
    paddedByte l (nblkf l) content p = lengthByte l (p - (64 * nblkf l - 8)) := by
  have hfit := add_nine_le_nblkf l
  have hpast : l < p := by omega
  simp [paddedByte, hpast.not_gt, hpast.ne', h.not_gt]

end stream

/-- Byte n of the length field as arithmetic: the bit length of a legal message does not wrap. -/
theorem lengthByte_eq_div {l : Nat} (hl : l < 2 ^ 61) (n : Nat) :
    lengthByte l n = BitVec.ofNat 8 (8 * l / 2 ^ (8 * n)) := by
  apply BitVec.eq_of_toNat_eq
  rw [lengthByte, BitVec.extractLsb'_toNat, BitVec.toNat_ofNat, BitVec.toNat_ofNat,
    Nat.mod_eq_of_lt (show 8 * l < 2 ^ 64 by omega), Nat.shiftRight_eq_div_pow]

/-- Four bytes of the length field in a row are adjacent ranges of its bits. -/
theorem le32_lengthByte (l n : Nat) :
    le32 (lengthByte l n) (lengthByte l (n + 1)) (lengthByte l (n + 2)) (lengthByte l (n + 3)) =
      (BitVec.ofNat 64 (8 * l)).extractLsb' (8 * n) 32 := by
  have adjacent (k : Nat) : 8 * (k + 1) = 8 * k + 8 := rfl
  rw [le32, lengthByte, lengthByte, lengthByte, lengthByte,
    BitVec.extractLsb'_append_extractLsb'_eq_extractLsb' (adjacent (n + 2)),
    BitVec.extractLsb'_append_extractLsb'_eq_extractLsb' (adjacent (n + 1)),
    BitVec.extractLsb'_append_extractLsb'_eq_extractLsb' (adjacent n)]

/-! ### The blocks, word by word and byte by byte -/

theorem blockAt_getElem (stream : Nat → Byte) (base : Nat) {k : Nat} (hk : k < 16) :
    (blockAt stream base)[k] =
      le32 (stream (base + 4 * k)) (stream (base + 4 * k + 1)) (stream (base + 4 * k + 2))
        (stream (base + 4 * k + 3)) :=
  Vector.getElem_ofFn hk

/-- Byte i of a packed word is the i-th of the four bytes. -/
theorem byteOf_le32_stream (stream : Nat → Byte) (a : Nat) {i : Nat} (hi : i < 4) :
    byteOf i (le32 (stream a) (stream (a + 1)) (stream (a + 2)) (stream (a + 3))) =
      stream (a + i) := by
  interval_cases i <;> simp

/-- The words of a block hold its 64 bytes in the stream's order. -/
theorem byteOf_blockAt (stream : Nat → Byte) (base : Nat) {j : Nat} (hj : j < 64) :
    ((blockAt stream base)[j / 4]?).map (byteOf (j % 4)) = some (stream (base + j)) := by
  have hword : j / 4 < 16 := by omega
  rw [Vector.getElem?_eq_getElem hword, blockAt_getElem stream base hword, Option.map_some,
    byteOf_le32_stream stream _ (Nat.mod_lt j (by decide)), Nat.add_assoc, Nat.div_add_mod]

/-- Position p of the padded stream is byte p mod 64 of block p div 64. -/
theorem byteOf_messageBlock (l : Nat) (message : Nat → Byte) (p : Nat) :
    ((messageBlock l message (p / 64))[p % 64 / 4]?).map (byteOf (p % 4)) =
      some (paddedByte l (nblkf l) message p) := by
  have hbyte := byteOf_blockAt (paddedByte l (nblkf l) message) (64 * (p / 64))
    (Nat.mod_lt p (show 64 > 0 by decide))
  rwa [Nat.div_add_mod, Nat.mod_mod_of_dvd p (show 4 ∣ 64 by decide)] at hbyte

/-- Settles O44: `byteOf_messageBlock`, and the stream by R130's four conditions. -/
theorem blocksAreThePaddedStream : Obligations.BlocksAreThePaddedStream := by
  intro l message p hl _
  simp only [byteOf_messageBlock, Option.some_inj]
  refine ⟨paddedByte_content _ _, ?_, paddedByte_zero _ _, fun h => ?_⟩
  · rintro rfl
    exact paddedByte_terminator _ _ _
  · rw [paddedByte_length message h, lengthByte_eq_div hl]

/-- The length field fills words 14 and 15 of the final block (R134). -/
theorem messageBlock_final_getElem (l : Nat) (message : Nat → Byte) {b : Nat}
    (hb : b + 1 = nblkf l) {k : Nat} (hlow : 14 ≤ k) (hk : k < 16) :
    (messageBlock l message b)[k] =
      le32 (lengthByte l (4 * (k - 14))) (lengthByte l (4 * (k - 14) + 1))
        (lengthByte l (4 * (k - 14) + 2)) (lengthByte l (4 * (k - 14) + 3)) := by
  have hbyte (i : Nat) :
      paddedByte l (nblkf l) message (64 * b + 4 * k + i) = lengthByte l (4 * (k - 14) + i) := by
    rw [paddedByte_length message (by omega),
      show 64 * b + 4 * k + i - (64 * nblkf l - 8) = 4 * (k - 14) + i by omega]
  rw [messageBlock, blockAt_getElem _ _ hk, hbyte 1, hbyte 2, hbyte 3]
  exact congrArg (le32 · _ _ _) (hbyte 0)

/-- The eighth byte of the length field is zero up to 2^53 − 1 (R136). -/
theorem lengthByte_seven_ne_zero_iff {l : Nat} (hl : l < 2 ^ 61) :
    lengthByte l 7 ≠ 0 ↔ 2 ^ 53 ≤ l := by
  have hbyte : (lengthByte l 7).toNat = 8 * l / 2 ^ 56 := by
    rw [lengthByte_eq_div hl]
    exact Nat.mod_eq_of_lt (by omega)
  rw [ne_eq, ← BitVec.toNat_inj, hbyte, show (0 : Byte).toNat = 0 from rfl]
  omega

/-! ### A command word and its micro-operation -/

/-- A write to CMD is the meaning of the instruction whose word it is (R197). -/
theorem step_command {i : Instr} {v : Word} (hword : encode i = .cmdWord v) (s : State)
    (rest : List Event) :
    step { s with agenda := .host (.wr 0 v) :: rest } = exec i { s with agenda := rest } := by
  rw [step_host rfl]
  show cmdWrite v { s with agenda := rest } = _
  rw [cmdWrite, ← hword, decode_encode]

/-- An accepted command, then the engine's turn. -/
theorem runSteps_command_engine {i : Instr} {v : Word} (hword : encode i = .cmdWord v)
    {s t : State} {rest : List Event}
    (haccept : exec i { s with agenda := .engine :: rest } =
      .next { t with agenda := .engine :: rest }) :
    runSteps 2 { s with agenda := .host (.wr 0 v) :: .engine :: rest } =
      .next (afterEngine { t with agenda := rest }) := by
  rw [runSteps_succ ((step_command hword s _).trans haccept), runSteps_succ (step_engine rfl),
    runSteps_zero]

/-- An idle lane is already where a micro-operation of its own ends. -/
theorem Ready.toIdle_eq {s : State} (h : Ready s) : toIdle s = s := by
  obtain ⟨hupc, hbusy, -, -, hauto, -⟩ := h
  cases s
  cases hupc
  cases hbusy
  cases hauto
  rfl

/-! ### CHKRST and U_RST (R131, R132) -/

/-- What U_RST writes: the block count of MLEN, and the start of the sequence. -/
def restartSequence (s : State) : State :=
  { s with nblk := BitVec.ofNat 56 (nblkf s.mlen.toNat), blk := 0, last := false }

theorem microRst_eq (s : State) : microRst s = handOver .uChunk (restartSequence s) := rfl

section chkrst

variable {s : State}

theorem exec_chkrst_legal (hb : s.busy = false) (he : s.err = false) (hl : lenIllegal s = false) :
    exec .chkrst s = .next (accept .uRst false (latchLength s)) :=
  congrArg Host.Outcome.next
    ((guardWrite_idle _ he hb).trans (acceptWithLength_legal _ _ hl))

theorem exec_chkrst_illegal (hb : s.busy = false) (he : s.err = false) (hl : lenIllegal s = true) :
    exec .chkrst s = .next (raiseFault .len s) :=
  congrArg Host.Outcome.next
    ((guardWrite_idle _ he hb).trans (acceptWithLength_illegal _ _ hl))

/-- The whole command from a ready lane. -/
theorem runSteps_chkrst (h : Ready s) (hl : lenIllegal s = false) (rest : List Event) :
    runSteps 2 { s with agenda := .host (.wr 0 0x00000002) :: .engine :: rest } =
      .next { restartSequence (latchLength s) with agenda := rest } := by
  rw [runSteps_command_engine (i := .chkrst) (t := accept .uRst false (latchLength s)) rfl
    (exec_chkrst_legal h.busy h.err hl), afterEngine_uRst rfl, microRst_eq, handOver_single _ rfl]
  exact congrArg
    (fun u => Host.Outcome.next { restartSequence (latchLength u) with agenda := rest }) h.toIdle_eq

end chkrst

/-- Settles O17: acceptance and fault by the test of LEN, U_RST by its definition, and the whole
command by `runSteps_chkrst`; the latched length and its block count lose nothing. -/
theorem chkrstCommand : Obligations.ChkrstCommand := by
  refine ⟨fun s hb he hlt hcap => ?_, fun s hb he hbad => ?_, fun s hu => ?_,
    fun s rest h hlt hcap => ?_⟩
  · exact exec_chkrst_legal hb he ((lenIllegal_eq_false s).mpr ⟨hlt, hcap⟩)
  · refine exec_chkrst_illegal hb he ?_
    rw [← Bool.not_eq_false, lenIllegal_eq_false]
    omega
  · rw [engineEvent_eq, afterEngine_uRst hu]
    rfl
  · have hmlen := latchLength_toNat hlt
    have hnblk : (restartSequence (latchLength s)).nblk.toNat = nblkf s.len.toNat := by
      rw [restartSequence, hmlen, ofNat_nblkf_toNat hlt]
    refine ⟨_, runSteps_chkrst h ((lenIllegal_eq_false s).mpr ⟨hlt, hcap⟩) rest, rfl, hmlen,
      hnblk, ?_⟩
    rw [chkdone_eq_decide, decide_eq_false_iff_not, ← BitVec.toNat_inj]
    exact fun hzero => Nat.succ_ne_zero _ (hnblk.symm.trans hzero.symm)

/-! ### CHKNXT and U_CHUNK (R133, R134) -/

/-- What U_CHUNK writes: block BLK of the padded stream, and the step to the next block. -/
def produceBlock (s : State) : State :=
  { s with
    m := blockAt (paddedByte s.mlen.toNat s.nblk.toNat (memRead s)) (64 * s.blk.toNat)
    last := decide (s.blk.toNat + 1 = s.nblk.toNat)
    blk := s.blk + 1 }

theorem microChunk_eq (s : State) : microChunk s = handOver .uLoadw (produceBlock s) := rfl

section chknxt

variable {s : State}

theorem exec_chknxt_next (hb : s.busy = false) (he : s.err = false) (hne : s.blk ≠ s.nblk) :
    exec .chknxt s = .next (accept .uChunk false s) :=
  congrArg Host.Outcome.next
    ((guardWrite_idle _ he hb).trans (if_neg (by simpa [chkdone] using hne)))

theorem exec_chknxt_done (hb : s.busy = false) (he : s.err = false) (heq : s.blk = s.nblk) :
    exec .chknxt s = .next (raiseFault .seq s) :=
  congrArg Host.Outcome.next
    ((guardWrite_idle _ he hb).trans (if_pos (by simpa [chkdone] using heq)))

/-- The whole command from a ready lane. -/
theorem runSteps_chknxt (h : Ready s) (hne : s.blk ≠ s.nblk) (rest : List Event) :
    runSteps 2 { s with agenda := .host (.wr 0 0x00000003) :: .engine :: rest } =
      .next { produceBlock s with agenda := rest } := by
  rw [runSteps_command_engine (i := .chknxt) (t := accept .uChunk false s) rfl
    (exec_chknxt_next h.busy h.err hne), afterEngine_uChunk rfl, microChunk_eq,
    handOver_single _ rfl]
  exact congrArg (fun u => Host.Outcome.next { produceBlock u with agenda := rest }) h.toIdle_eq

end chknxt

/-- Settles O18: acceptance and fault by the test of CHKDONE, U_CHUNK by its definition, and the
whole command by `runSteps_chknxt`. -/
theorem chknxtCommand : Obligations.ChknxtCommand := by
  refine ⟨fun _ => exec_chknxt_next, fun _ => exec_chknxt_done, fun s hu _ => ?_,
    fun s rest h hlt => ?_⟩
  · rw [engineEvent_eq, afterEngine_uChunk hu, microChunk_eq]
    rfl
  · exact runSteps_chknxt h (fun heq => absurd (congrArg BitVec.toNat heq) hlt.ne) rest

/-- With the block count of MLEN, U_CHUNK makes block BLK of R130. -/
theorem microChunk_m_eq_messageBlock {s : State} (h : s.nblk.toNat = nblkf s.mlen.toNat) :
    (microChunk s).m = messageBlock s.mlen.toNat (memRead s) s.blk.toNat := by
  rw [microChunk_m, h, messageBlock]

theorem microChunk_last (s : State) :
    (microChunk s).last = decide (s.blk.toNat + 1 = s.nblk.toNat) := by
  obtain ⟨_, _, _, heq⟩ := handOver_frame .uLoadw (produceBlock s)
  rw [microChunk_eq, heq, produceBlock]

/-- Settles O46: the two words by `messageBlock_final_getElem`, whose eighth byte is the top byte of
the length field. -/
theorem finalBlockHoldsTheLength : Obligations.FinalBlockHoldsTheLength := by
  intro s hu hnblk hfinal
  have hword {k : Nat} (hlow : 14 ≤ k) (hk : k < 16) :=
    messageBlock_final_getElem s.mlen.toNat (memRead s) (hfinal.trans hnblk) hlow hk
  refine ⟨microChunk s, by rw [engineEvent_eq, afterEngine_uChunk hu], ?_, ?_, ?_, ?_⟩
  · rw [microChunk_last, decide_eq_true hfinal]
  all_goals simp only [microChunk_m_eq_messageBlock hnblk]
  · rw [hword (by decide)]
    exact le32_lengthByte _ 0
  · rw [hword (by decide)]
    exact le32_lengthByte _ 4
  · rw [hword (by decide), byteOf_three_le32]
    exact lengthByte_seven_ne_zero_iff s.mlen.isLt

end Sys2Proof.Machine
end

section
/-! PROOFS. The compression round pipeline (42_round.md): the step functions bit by bit, the effect
and the frame of a step row, and the commands LOADW and ROUND. -/

namespace Sys2Proof.Machine

/-! ### The step functions, one bit at a time (R154 to R157, R160) -/

section bitwise

variable (b c d : Word) {n : Nat}

/-- B selects between C and D. -/
theorem f0_getLsbD (hn : n < 32) :
    (f0 b c d).getLsbD n = if b.getLsbD n then c.getLsbD n else d.getLsbD n := by
  simp only [f0, BitVec.getLsbD_or, BitVec.getLsbD_and, BitVec.getLsbD_not, hn, decide_true,
    Bool.true_and]
  cases b.getLsbD n <;> simp

/-- F1 is F0 with the operands rotated: D selects between B and C. -/
theorem f1_eq_f0 : f1 b c d = f0 d b c := rfl

theorem f2_getLsbD (n : Nat) :
    (f2 b c d).getLsbD n = (b.getLsbD n).xor ((c.getLsbD n).xor (d.getLsbD n)) := by
  simp only [f2, BitVec.getLsbD_xor, Bool.xor_assoc]

theorem f3_getLsbD (hn : n < 32) :
    (f3 b c d).getLsbD n = (c.getLsbD n).xor (b.getLsbD n || !d.getLsbD n) := by
  simp only [f3, BitVec.getLsbD_xor, BitVec.getLsbD_or, BitVec.getLsbD_not, hn, decide_true,
    Bool.true_and]

end bitwise

/-- Settles O6, function by function; F1's selection is F0's. -/
theorem stepFunctionsBitByBit : Obligations.StepFunctionsBitByBit := fun b c d n hn =>
  ⟨f0_getLsbD b c d hn, f1_eq_f0 b c d ▸ f0_getLsbD d b c hn, f2_getLsbD b c d n,
    f3_getLsbD b c d hn⟩

/-! ### The step rows (R153, R40) -/

/-- Executing the row USTEP.i. -/
theorem exec_stepRow {x : Instr} {i : BitVec 6} (h : encode x = .stepCounter i) (s : State) :
    exec x s = .next (afterStep i s) := by
  rw [eq_stepInstr h, exec_stepInstr, stepOp_eq]

/-- Settles O8: R153's operands by `stepFunction_eq` and `wordIndex_eq`, the successor by the last
step and AUTO. -/
theorem stepRowEffect : Obligations.StepRowEffect := by
  intro x i s hx n f g temp t
  have hmix : mixStep i s.m s.w = t.w := by
    simp only [mixStep, wordOperand, stepFunction_eq, wordIndex_eq]
    rfl
  rw [exec_stepRow hx, afterStep, hmix, stepCtr_succ]
  by_cases h63 : i = 63
  · rw [if_pos h63, if_pos ((eq_63_iff i).mp h63)]
    rfl
  · rw [if_neg h63, if_neg (mt (eq_63_iff i).mpr h63)]

/-- A step row writes W, STEP and UPC, and BUSY and AUTO only with the last step. -/
theorem afterStep_frame (i : BitVec 6) (s : State) :
    ∃ w st u bs au, afterStep i s =
        { s with w := w, stepCtr := st, upc := u, busy := bs, auto := au } ∧
      (i ≠ 63 → bs = s.busy ∧ au = s.auto) := by
  by_cases h63 : i = 63
  · obtain ⟨u, bs, au, heq⟩ :=
      handOver_frame .uChain { s with w := mixStep 63 s.m s.w, stepCtr := 0 }
    rw [h63, afterStep_last, heq]
    exact ⟨_, _, u, bs, au, rfl, fun hne => absurd rfl hne⟩
  · rw [afterStep_of_ne h63]
    exact ⟨_, _, _, s.busy, s.auto, rfl, fun _ => ⟨rfl, rfl⟩⟩

/-- Settles O9, by `afterStep_frame`; a message byte reads alike, since MSG is among what stays. -/
theorem stepRowsFrame : Obligations.StepRowsFrame := by
  intro x i s t hx ht
  rw [exec_stepRow hx] at ht
  cases ht
  obtain ⟨_, _, _, _, _, heq, hcontrol⟩ := afterStep_frame i s
  rw [heq]
  exact ⟨rfl, rfl, rfl, rfl, rfl, rfl, rfl, rfl, rfl, rfl, rfl, rfl, rfl, rfl, rfl, rfl,
    fun _ => rfl, hcontrol⟩

/-! ### LOADW and U_LOADW (R150, R151) -/

section loadw

variable {s : State}

theorem exec_loadw_idle (hb : s.busy = false) (he : s.err = false) :
    exec .loadw s = .next (accept .uLoadw false s) :=
  congrArg Host.Outcome.next (guardWrite_idle _ he hb)

/-- The whole command from a ready lane. -/
theorem runSteps_loadw (h : Ready s) (rest : List Event) :
    runSteps 2 { s with agenda := .host (.wr 0 0x00000004) :: .engine :: rest } =
      .next { s with w := s.h, agenda := rest } := by
  rw [runSteps_command_engine (i := .loadw) (t := accept .uLoadw false s) rfl
    (exec_loadw_idle h.busy h.err), afterEngine_uLoadw rfl, microLoadw, handOver_single _ rfl]
  exact congrArg (fun u => Host.Outcome.next { u with w := u.h, agenda := rest }) h.toIdle_eq

end loadw

/-- Settles O13: acceptance by the guard, U_LOADW by its definition, and the whole command by
`runSteps_loadw`. -/
theorem loadwCommand : Obligations.LoadwCommand := by
  refine ⟨fun _ => exec_loadw_idle, fun s hu => ?_, fun _ rest h => runSteps_loadw h rest⟩
  rw [engineEvent_eq, afterEngine_uLoadw hu, microLoadw]
  rfl

/-! ### ROUND and the 64 turns of U_STEP (R152, R153, R158) -/

section round

variable {s : State}

theorem exec_round_idle (hb : s.busy = false) (he : s.err = false) :
    exec .round s = .next (accept .uStep false s) :=
  congrArg Host.Outcome.next (guardWrite_idle _ he hb)

/-- An engine event does the same whatever is listed after it. -/
theorem afterEngine_with_agenda (s : State) (ag : List Event) :
    afterEngine { s with agenda := ag } = { afterEngine s with agenda := ag } := by
  have hreplies : (afterEngine s).replies = s.replies := by
    obtain ⟨_, _, _, _, _, _, _, _, _, _, _, _, _, heq, -⟩ := afterEngine_frame s
    rw [heq]
  calc afterEngine { s with agenda := ag }
      = { afterEngine s with agenda := ag, replies := s.replies } :=
        afterEngine_agenda s ag s.replies
    _ = { afterEngine s with agenda := ag } := by rw [← hreplies]

/-- n turns of the engine, one after the other, are n engine events. -/
theorem runSteps_replicate_engine (n : Nat) (s : State) (rest : List Event) :
    runSteps n { s with agenda := List.replicate n .engine ++ rest } =
      .next { afterEngine^[n] s with agenda := rest } := by
  induction n generalizing s with
  | zero => rfl
  | succ n ih =>
    rw [List.replicate_succ, List.cons_append, runSteps_succ (step_engine rfl),
      Function.iterate_succ_apply, ← ih, ← afterEngine_with_agenda]

/-- The lane inside the round, with steps 0 to n − 1 performed. -/
def midRound (s : State) (n : Nat) : State :=
  { s with w := mixSteps s.m s.w n, stepCtr := BitVec.ofNat 6 n }

theorem midRound_zero (hstep : s.stepCtr = 0) : midRound s 0 = s := by
  rw [midRound, show BitVec.ofNat 6 0 = s.stepCtr from hstep.symm]
  rfl

/-- U_STEP performs the step whose number STEP holds. -/
theorem afterEngine_midRound (hu : s.upc = .uStep) (n : Nat) :
    afterEngine (midRound s n) = afterStep (BitVec.ofNat 6 n) (midRound s n) :=
  afterEngine_uStep hu

/-- A step before the last one stays in the round. -/
theorem afterStep_midRound (hu : s.upc = .uStep) {n : Nat} (hn : n < 63) :
    afterStep (BitVec.ofNat 6 n) (midRound s n) = midRound s (n + 1) := by
  have hne : BitVec.ofNat 6 n ≠ 63 := by
    rw [ne_eq, eq_63_iff, BitVec.toNat_ofNat]
    omega
  rw [afterStep_of_ne hne, ← hu, midRound, midRound, BitVec.ofNat_add]
  rfl

/-- The last step leaves the round with STEP = 0 again. -/
theorem afterStep_midRound_last (s : State) (n : Nat) :
    afterStep 63#6 (midRound s n) = handOver .uChain
      { s with w := mixStep 63 s.m (mixSteps s.m s.w n), stepCtr := 0 } := afterStep_last _

theorem compress_eq (m : Vector Word 16) (w : Quad) :
    compress m w = mixStep 63 m (mixSteps m w 63) := rfl

/-- The turns of U_STEP before the last one, from STEP = 0. -/
theorem iterate_afterEngine_midRound (hu : s.upc = .uStep) (hstep : s.stepCtr = 0) {n : Nat}
    (hn : n < 64) : afterEngine^[n] s = midRound s n := by
  induction n with
  | zero => exact (midRound_zero hstep).symm
  | succ n ih =>
    rw [Function.iterate_succ_apply', ih (by omega), afterEngine_midRound hu,
      afterStep_midRound hu (by omega)]

/-- All 64 turns of U_STEP: COMPRESS, and the successor of step 63. -/
theorem iterate_afterEngine_round (hu : s.upc = .uStep) (hstep : s.stepCtr = 0) :
    afterEngine^[64] s = handOver .uChain { s with w := compress s.m s.w } := by
  rw [Function.iterate_succ_apply', iterate_afterEngine_midRound hu hstep (by decide),
    afterEngine_midRound hu, afterStep_midRound_last, compress_eq, ← hstep]

/-- The write of ROUND's word, whatever is listed after it. -/
theorem step_round (h : Ready s) (ag : List Event) :
    step { s with agenda := .host (.wr 0 0x00000005) :: ag } =
      .next { accept .uStep false s with agenda := ag } :=
  (step_command (i := .round) rfl s ag).trans
    (exec_round_idle (s := { s with agenda := ag }) h.busy h.err)

/-- A ready lane that accepted a command and comes back to rest has kept all but the W written. -/
theorem Ready.toIdle_accept_with_w (h : Ready s) (u : UPC) (w : Quad) :
    toIdle { accept u false s with w := w } = { s with w := w } :=
  congrArg (fun t => { t with w := w }) h.toIdle_eq

/-- The whole command from a ready lane. -/
theorem runSteps_round (h : Ready s) (rest : List Event) :
    runSteps 65
        { s with agenda := .host (.wr 0 0x00000005) :: List.replicate 64 .engine ++ rest } =
      .next { s with w := compress s.m s.w, agenda := rest } := by
  have hstep : (accept .uStep false s).stepCtr = 0 := h.stepCtr
  rw [List.cons_append, runSteps_succ (step_round h _), runSteps_replicate_engine,
    iterate_afterEngine_round rfl hstep, handOver_single _ rfl, h.toIdle_accept_with_w, accept_m,
    accept_w]

end round

/-- Settles O10: acceptance by the guard, the net effect by `runSteps_round`. -/
theorem roundCommand : Obligations.RoundCommand :=
  ⟨fun _ => exec_round_idle, fun _ rest h => runSteps_round h rest⟩

end Sys2Proof.Machine
end

section
/-! PROOFS. The digest accumulator (43_accumulator.md): the commands INIT, CHAIN and SERIAL, the
acceptance of COMPUTE, the run it starts (R176 to R178) and the hand-issued sequence that leaves the
same state (R179). -/

namespace Sys2Proof.Machine

/-! ### Commands of one micro-operation -/

/-- A lane that agrees with a ready lane on what `Ready` reads is ready. -/
theorem Ready.of_same_control {s t : State} (h : Ready s)
    (hcontrol : (t.upc, t.busy, t.err, t.errCode, t.auto, t.stepCtr) =
      (s.upc, s.busy, s.err, s.errCode, s.auto, s.stepCtr)) : Ready t := by
  obtain ⟨hupc, hbusy, herr, herrCode, hauto, hstepCtr⟩ := h
  rw [hupc, hbusy, herr, herrCode, hauto, hstepCtr] at hcontrol
  cases t
  cases hcontrol
  exact ⟨rfl, rfl, rfl, rfl, rfl, rfl⟩

section oneMicroOperation

variable {i : Instr} {u : UPC} {s : State}

theorem exec_accept_idle (hexec : exec i s = .next (guardWrite (accept u false) s))
    (hb : s.busy = false) (he : s.err = false) : exec i s = .next (accept u false s) := by
  rw [hexec, guardWrite_idle _ he hb]

/-- The whole command from a ready lane, when its micro-operation has an effect of its own and then
returns to IDLE. -/
theorem runSteps_accept_engine {v : Word} {effect : State → State} (hword : encode i = .cmdWord v)
    (hexec : ∀ t, exec i t = .next (guardWrite (accept u false) t))
    (hmicro : ∀ t, afterEngine (accept u false t) = effect (toIdle t)) (h : Ready s)
    (rest : List Event) :
    runSteps 2 { s with agenda := .host (.wr 0 v) :: .engine :: rest } =
      .next (effect { s with agenda := rest }) := by
  have hready : Ready { s with agenda := rest } := h.of_same_control rfl
  rw [runSteps_command_engine (t := accept u false s) hword
    (exec_accept_idle (hexec _) h.busy h.err)]
  calc Host.Outcome.next (afterEngine (accept u false { s with agenda := rest }))
      = .next (effect (toIdle { s with agenda := rest })) := by rw [hmicro]
    _ = .next (effect { s with agenda := rest }) := by rw [hready.toIdle_eq]

end oneMicroOperation

/-! ### INIT, CHAIN and SERIAL (R170 to R175) -/

/-- What U_INIT writes. -/
def initHash (s : State) : State := { s with h := iv, dvalid := false }

/-- What U_CHAIN writes. -/
def chainHash (s : State) : State := { s with h := addQuad s.h s.w }

/-- What U_SERIAL writes. -/
def serialDigest (s : State) : State := { s with digest := serialize s.h, dvalid := true }

theorem microInit_eq (s : State) : microInit s = handOver .uRst (initHash s) := rfl

theorem microChain_eq (s : State) :
    microChain s = handOver (if s.last then .uSerial else .uChunk) (chainHash s) := rfl

theorem microSerial_eq (s : State) : microSerial s = toIdle (serialDigest s) := rfl

section wholeCommands

variable {s : State} (h : Ready s) (rest : List Event)
include h

theorem runSteps_init :
    runSteps 2 { s with agenda := .host (.wr 0 0x00000001) :: .engine :: rest } =
      .next { initHash s with agenda := rest } :=
  runSteps_accept_engine (i := .init) (effect := initHash) rfl (fun _ => rfl) (fun _ => rfl) h rest

theorem runSteps_chain :
    runSteps 2 { s with agenda := .host (.wr 0 0x00000006) :: .engine :: rest } =
      .next { chainHash s with agenda := rest } :=
  runSteps_accept_engine (i := .chain) (effect := chainHash) rfl (fun _ => rfl) (fun _ => rfl) h
    rest

theorem runSteps_serial :
    runSteps 2 { s with agenda := .host (.wr 0 0x00000007) :: .engine :: rest } =
      .next { serialDigest s with agenda := rest } :=
  runSteps_accept_engine (i := .serial) (effect := serialDigest) rfl (fun _ => rfl) (fun _ => rfl)
    h rest

end wholeCommands

/-- Settles O12: acceptance by the guard, U_INIT by its definition, and the whole command by
`runSteps_init`. -/
theorem initCommand : Obligations.InitCommand := by
  refine ⟨fun _ => exec_accept_idle rfl, fun s hu => ?_, fun _ rest h => runSteps_init h rest⟩
  rw [engineEvent_eq, afterEngine_uInit hu, microInit_eq]
  rfl

/-- Settles O14: acceptance by the guard, U_CHAIN by its definition, and the whole command by
`runSteps_chain`. -/
theorem chainCommand : Obligations.ChainCommand := by
  refine ⟨fun _ => exec_accept_idle rfl, fun s hu => ?_, fun _ rest h => runSteps_chain h rest⟩
  rw [engineEvent_eq, afterEngine_uChain hu, microChain_eq]
  rfl

/-- The bytes of R175, word by word. -/
theorem serialize_getElem? (h : Quad) {k : Nat} (hk : k < 4) :
    (serialize h)[k]? = some (byteOf k h.a) ∧ (serialize h)[4 + k]? = some (byteOf k h.b) ∧
      (serialize h)[8 + k]? = some (byteOf k h.c) ∧
      (serialize h)[12 + k]? = some (byteOf k h.d) := by
  interval_cases k <;> exact ⟨rfl, rfl, rfl, rfl⟩

/-- Settles O15: acceptance by the guard, U_SERIAL by its definition, the whole command by
`runSteps_serial`, and the digest's bytes by `serialize_getElem?`. -/
theorem serialCommand : Obligations.SerialCommand := by
  refine ⟨fun _ => exec_accept_idle rfl, fun s hu => ?_, fun _ rest h => runSteps_serial h rest,
    fun h _ => serialize_getElem? h⟩
  rw [engineEvent_eq, afterEngine_uSerial hu, microSerial_eq]
  rfl

/-! ### The acceptance of COMPUTE (R176, R213) -/

theorem lenIllegal_eq_true (s : State) :
    lenIllegal s = true ↔ 2 ^ 61 ≤ s.len.toNat ∨ msgCap s < s.len.toNat := by
  rw [← Bool.not_eq_false, lenIllegal_eq_false]
  omega

section compute

variable {s : State}

theorem exec_compute_legal (hb : s.busy = false) (he : s.err = false)
    (hl : lenIllegal s = false) : exec .compute s = .next (accept .uInit true (latchLength s)) :=
  congrArg Host.Outcome.next
    ((guardWrite_idle _ he hb).trans (acceptWithLength_legal _ _ hl))

theorem exec_compute_illegal (hb : s.busy = false) (he : s.err = false)
    (hl : lenIllegal s = true) : exec .compute s = .next (raiseFault .len s) :=
  congrArg Host.Outcome.next
    ((guardWrite_idle _ he hb).trans (acceptWithLength_illegal _ _ hl))

end compute

/-- Settles O19: acceptance and fault by the test of LEN, which separates the two bounds of R213. -/
theorem computeAcceptance : Obligations.ComputeAcceptance := by
  refine ⟨fun s hb he hlt hcap => ?_, fun s hb he hbad => ?_, fun s hb he hcap =>
    ⟨fun hlen => ⟨accept .uInit true (latchLength s), ?_, rfl, he⟩,
      fun hlen => ⟨raiseFault .len s, ?_, rfl, rfl⟩⟩⟩
  · exact exec_compute_legal hb he ((lenIllegal_eq_false s).mpr ⟨hlt, hcap⟩)
  · exact exec_compute_illegal hb he ((lenIllegal_eq_true s).mpr hbad)
  · refine exec_compute_legal hb he ((lenIllegal_eq_false s).mpr ?_)
    rw [hcap, hlen]
    decide
  · refine exec_compute_illegal hb he ((lenIllegal_eq_true s).mpr (.inl ?_))
    rw [hlen]
    decide

/-! ### The digest procedure, without its sequencer (R176, R177) -/

/-- The registers before the first block: INIT and CHKRST have written theirs. -/
def startSequence (s : State) : State := restartSequence (initHash (latchLength s))

/-- What U_LOADW writes. -/
def loadWorking (s : State) : State := { s with w := s.h }

/-- What 64 times U_STEP write. -/
def compressWorking (s : State) : State := { s with w := compress s.m s.w }

/-- One pass of the block loop: U_CHUNK, U_LOADW, 64 times U_STEP, U_CHAIN. -/
def blockPass (s : State) : State := chainHash (compressWorking (loadWorking (produceBlock s)))

/-- The registers after k blocks, with what the last pass left in W and M. -/
def sequenceState (s : State) (k : Nat) (w : Quad) (m : Vector Word 16) : State :=
  { s with
    h := chainState s.len.toNat (memRead s) k
    w := w
    m := m
    mlen := s.len.extractLsb' 0 61
    nblk := BitVec.ofNat 56 (nblkf s.len.toNat)
    blk := BitVec.ofNat 56 k
    last := decide (k = nblkf s.len.toNat)
    dvalid := false }

theorem chainState_succ (l : Nat) (message : Nat → Byte) (b : Nat) :
    chainState l message (b + 1) =
      addQuad (chainState l message b)
        (compress (messageBlock l message b) (chainState l message b)) := by
  rw [chainState]

theorem zero_ne_nblkf (l : Nat) : 0 ≠ nblkf l := (Nat.succ_ne_zero _).symm

section ready

variable {s : State} (h : Ready s)
include h

theorem ready_initHash : Ready (initHash s) := h.of_same_control rfl

theorem ready_loadWorking : Ready (loadWorking s) := h.of_same_control rfl

theorem ready_serialDigest : Ready (serialDigest s) := h.of_same_control rfl

-- The next two are unfolded first, so that no block and no compression is compared with what it
-- replaces.
theorem ready_produceBlock : Ready (produceBlock s) := by
  rw [produceBlock]
  exact h.of_same_control rfl

theorem ready_compressWorking : Ready (compressWorking s) := by
  rw [compressWorking]
  exact h.of_same_control rfl

theorem ready_sequenceState (k : Nat) (w : Quad) (m : Vector Word 16) :
    Ready (sequenceState s k w m) := h.of_same_control rfl

end ready

section sequence

variable {s : State} (hl : s.len.toNat < 2 ^ 61)
include hl

theorem startSequence_eq : startSequence s = sequenceState s 0 s.w s.m := by
  have hmlen : (initHash (latchLength s)).mlen.toNat = s.len.toNat := latchLength_toNat hl
  rw [startSequence, restartSequence, hmlen, sequenceState, decide_eq_false (zero_ne_nblkf _)]
  rfl

/-- The block counters hold every index up to the block count. -/
theorem ofNat_toNat_of_le_nblkf {k : Nat} (hk : k ≤ nblkf s.len.toNat) :
    (BitVec.ofNat 56 k).toNat = k := by
  apply Nat.mod_eq_of_lt
  unfold nblkf at hk
  omega

/-- U_CHUNK with BLK = k makes block k of the message. -/
theorem produceBlock_sequenceState {k : Nat} (hk : k < nblkf s.len.toNat) (w : Quad)
    (m : Vector Word 16) :
    produceBlock (sequenceState s k w m) =
      { sequenceState s (k + 1) w (messageBlock s.len.toNat (memRead s) k) with
        h := chainState s.len.toNat (memRead s) k } := by
  have hmlen : (sequenceState s k w m).mlen.toNat = s.len.toNat := latchLength_toNat hl
  have hnblk : (sequenceState s k w m).nblk.toNat = nblkf s.len.toNat := ofNat_nblkf_toNat hl
  have hblk : (sequenceState s k w m).blk.toNat = k := ofNat_toNat_of_le_nblkf hl hk.le
  rw [produceBlock, hmlen, hnblk, hblk, sequenceState, sequenceState, BitVec.ofNat_add]
  rfl

/-- One pass performs one step of `chainState`'s recurrence. -/
theorem blockPass_sequenceState {k : Nat} (hk : k < nblkf s.len.toNat) (w : Quad)
    (m : Vector Word 16) :
    blockPass (sequenceState s k w m) =
      sequenceState s (k + 1)
        (compress (messageBlock s.len.toNat (memRead s) k) (chainState s.len.toNat (memRead s) k))
        (messageBlock s.len.toNat (memRead s) k) := by
  rw [blockPass, produceBlock_sequenceState hl hk]
  simp only [chainHash, compressWorking, loadWorking, sequenceState, chainState_succ]

/-- The registers after k passes. -/
theorem exists_iterate_blockPass {k : Nat} (hk : k ≤ nblkf s.len.toNat) :
    ∃ w m, blockPass^[k] (startSequence s) = sequenceState s k w m := by
  induction k with
  | zero => exact ⟨_, _, startSequence_eq hl⟩
  | succ k ih =>
    obtain ⟨w, m, heq⟩ := ih (by omega)
    rw [Function.iterate_succ_apply', heq, blockPass_sequenceState hl hk]
    exact ⟨_, _, rfl⟩

/-- The registers after the final pass, W and M included. -/
theorem iterate_blockPass_final :
    blockPass^[nblkf s.len.toNat] (startSequence s) =
      sequenceState s (nblkf s.len.toNat)
        (compress (messageBlock s.len.toNat (memRead s) (nblkf s.len.toNat - 1))
          (chainState s.len.toNat (memRead s) (nblkf s.len.toNat - 1)))
        (messageBlock s.len.toNat (memRead s) (nblkf s.len.toNat - 1)) := by
  obtain ⟨k, hk⟩ := Nat.exists_eq_succ_of_ne_zero (zero_ne_nblkf s.len.toNat).symm
  have hlt : k < nblkf s.len.toNat := hk ▸ Nat.lt_succ_self k
  obtain ⟨w, m, heq⟩ := exists_iterate_blockPass hl hlt.le
  rw [hk, Function.iterate_succ_apply', heq, blockPass_sequenceState hl hlt, Nat.succ_sub_one]

/-- LAST is 1 after the final pass and after no earlier one. -/
theorem iterate_blockPass_last {k : Nat} (hk : k ≤ nblkf s.len.toNat) :
    (blockPass^[k] (startSequence s)).last = decide (k = nblkf s.len.toNat) := by
  obtain ⟨w, m, heq⟩ := exists_iterate_blockPass hl hk
  rw [heq, sequenceState]

/-- CHKNXT finds a block left to produce before every pass. -/
theorem iterate_blockPass_blk_ne {k : Nat} (hk : k < nblkf s.len.toNat) :
    (blockPass^[k] (startSequence s)).blk ≠ (blockPass^[k] (startSequence s)).nblk := by
  obtain ⟨w, m, heq⟩ := exists_iterate_blockPass hl hk.le
  rw [heq, sequenceState, ne_eq, ← BitVec.toNat_inj, ofNat_nblkf_toNat hl,
    ofNat_toNat_of_le_nblkf hl hk.le]
  exact hk.ne

theorem ready_iterate_blockPass (h : Ready s) {k : Nat} (hk : k ≤ nblkf s.len.toNat) :
    Ready (blockPass^[k] (startSequence s)) := by
  obtain ⟨w, m, heq⟩ := exists_iterate_blockPass hl hk
  rw [heq]
  exact ready_sequenceState h k w m

end sequence

/-! ### The sequencer under AUTO (R40) -/

section auto

variable (s : State)

theorem afterEngine_auto_init :
    afterEngine (accept .uInit true s) = accept .uRst true (initHash s) := rfl

theorem afterEngine_auto_rst :
    afterEngine (accept .uRst true s) = accept .uChunk true (restartSequence s) := rfl

theorem afterEngine_auto_chunk :
    afterEngine (accept .uChunk true s) = accept .uLoadw true (produceBlock s) := rfl

theorem afterEngine_auto_loadw :
    afterEngine (accept .uLoadw true s) = accept .uStep true (loadWorking s) := rfl

theorem afterEngine_auto_chain :
    afterEngine (accept .uChain true s) =
      accept (if s.last then .uSerial else .uChunk) true (chainHash s) := rfl

theorem afterEngine_auto_serial :
    afterEngine (accept .uSerial true s) = toIdle (serialDigest s) := rfl

end auto

section autoRun

variable {s : State}

theorem iterate_afterEngine_auto_round (h : Ready s) :
    afterEngine^[64] (accept .uStep true s) =
      accept .uChain true (compressWorking s) :=
  iterate_afterEngine_round (s := accept .uStep true s) rfl h.stepCtr

/-- The 67 micro-operations of one block (R176). -/
theorem iterate_afterEngine_pass (h : Ready s) :
    afterEngine^[67] (accept .uChunk true s) =
      accept (if (blockPass s).last then .uSerial else .uChunk) true (blockPass s) := by
  rw [Function.iterate_succ_apply, Function.iterate_succ_apply, Function.iterate_succ_apply',
    afterEngine_auto_chunk, afterEngine_auto_loadw,
    iterate_afterEngine_auto_round (ready_loadWorking (ready_produceBlock h)),
    afterEngine_auto_chain]
  rfl

/-- The block loop: U_CHUNK comes next until LAST = 1, and then U_SERIAL. -/
theorem iterate_afterEngine_blocks (h : Ready s) (hl : s.len.toNat < 2 ^ 61) {k : Nat}
    (hk : k ≤ nblkf s.len.toNat) :
    afterEngine^[67 * k] (accept .uChunk true (startSequence s)) =
      accept (if k = nblkf s.len.toNat then .uSerial else .uChunk) true
        (blockPass^[k] (startSequence s)) := by
  induction k with
  | zero =>
    rw [if_neg (zero_ne_nblkf _)]
    rfl
  | succ k ih =>
    have hlast := iterate_blockPass_last hl hk
    have hready := ready_iterate_blockPass hl h (Nat.le_of_succ_le hk)
    rw [Function.iterate_succ_apply'] at hlast ⊢
    rw [Nat.mul_succ, Nat.add_comm, Function.iterate_add_apply, ih (by omega), if_neg (by omega),
      iterate_afterEngine_pass hready, hlast]
    simp only [decide_eq_true_eq]

/-- All micro-operations of COMPUTE (R176). -/
theorem iterate_afterEngine_compute (h : Ready s) (hl : s.len.toNat < 2 ^ 61) :
    afterEngine^[3 + 67 * nblkf s.len.toNat] (accept .uInit true (latchLength s)) =
      serialDigest (blockPass^[nblkf s.len.toNat] (startSequence s)) := by
  have hready := ready_serialDigest (ready_iterate_blockPass hl h le_rfl)
  rw [show 3 + 67 * nblkf s.len.toNat = 1 + 67 * nblkf s.len.toNat + 1 + 1 by omega,
    Function.iterate_succ_apply, Function.iterate_succ_apply, Function.iterate_add_apply,
    afterEngine_auto_init, afterEngine_auto_rst,
    ← startSequence, iterate_afterEngine_blocks h hl le_rfl, if_pos rfl,
    Function.iterate_one, afterEngine_auto_serial, hready.toIdle_eq]

/-- The whole command from a ready lane. -/
theorem runSteps_compute (h : Ready s) (hl : lenIllegal s = false) (rest : List Event) :
    runSteps (1 + (3 + 67 * nblkf s.len.toNat)) { s with
        agenda := .host (.wr 0 0x00000008) ::
          List.replicate (3 + 67 * nblkf s.len.toNat) .engine ++ rest } =
      .next { serialDigest (blockPass^[nblkf s.len.toNat] (startSequence s)) with
        agenda := rest } := by
  have haccept (ag : List Event) :
      step { s with agenda := .host (.wr 0 0x00000008) :: ag } =
        .next { accept .uInit true (latchLength s) with agenda := ag } :=
    (step_command (i := .compute) rfl s ag).trans
      (exec_compute_legal (s := { s with agenda := ag }) h.busy h.err hl)
  rw [Nat.add_comm 1, List.cons_append, runSteps_succ (haccept _), runSteps_replicate_engine,
    iterate_afterEngine_compute h ((lenIllegal_eq_false s).mp hl).1]

end autoRun

/-! ### The digest (R177, R178) -/

/-- The latched bits of LEN, as a number (R37). -/
theorem extractLsb'_eq_ofNat_toNat (x : BitVec 64) :
    x.extractLsb' 0 61 = BitVec.ofNat 61 x.toNat := by
  apply BitVec.eq_of_toNat_eq
  simp

/-- U_SERIAL after the final pass leaves the registers of R178. -/
theorem serialDigest_sequenceState (s : State) (w : Quad) (m : Vector Word 16) :
    serialDigest (sequenceState s (nblkf s.len.toNat) w m) = { s with
      digest := md5 s.len.toNat (memRead s)
      h := chainState s.len.toNat (memRead s) (nblkf s.len.toNat)
      w := w
      m := m
      mlen := BitVec.ofNat 61 s.len.toNat
      nblk := BitVec.ofNat 56 (nblkf s.len.toNat)
      blk := BitVec.ofNat 56 (nblkf s.len.toNat)
      dvalid := true
      last := true } := by
  simp only [serialDigest, sequenceState, md5, extractLsb'_eq_ofNat_toNat, decide_true]

/-- R178's STATUS: idle, unfaulted, the digest valid and no block left. -/
theorem status_eq_of_digest_done {t : State} (h : Ready t) (hdvalid : t.dvalid = true)
    (hlast : t.last = true) (hdone : t.blk = t.nblk) : status t = 0x0000000e := by
  apply BitVec.eq_of_toNat_eq
  rw [status_toNat, h.errCode, h.err, h.busy, hdvalid, hlast, chkdone_eq_decide,
    decide_eq_true hdone]
  rfl

/-- Settles O20: the run by `runSteps_compute`, and the registers it leaves by
`iterate_blockPass_final` and `serialDigest_sequenceState`. -/
theorem computeGivesTheDigest : Obligations.ComputeGivesTheDigest := by
  intro s rest h hlt hcap l blocks message t
  have hrun := runSteps_compute h ((lenIllegal_eq_false s).mpr ⟨hlt, hcap⟩) rest
  rw [iterate_blockPass_final hlt, serialDigest_sequenceState] at hrun
  exact ⟨hrun, status_eq_of_digest_done (h.of_same_control rfl) rfl rfl rfl⟩

/-! ### The hand-issued sequence (R179) -/

/-- The four commands of one pass, each run to completion. -/
def passEvents : List Event :=
  commandEvents .chknxt 1 ++ commandEvents .loadw 1 ++ commandEvents .round 64 ++
    commandEvents .chain 1

theorem handSequence_eq (n : Nat) :
    handSequence n = commandEvents .init 1 ++ commandEvents .chkrst 1 ++
      (List.replicate n passEvents).flatten ++ commandEvents .serial 1 := rfl

/-- The events, performed first, take the lane from s to t, whatever is listed after them. -/
def Performs (events : List Event) (s t : State) : Prop :=
  ∀ rest, runSteps events.length { s with agenda := events ++ rest } =
    .next { t with agenda := rest }

theorem Performs.append {e₁ e₂ : List Event} {s t u : State} (h₁ : Performs e₁ s t)
    (h₂ : Performs e₂ t u) : Performs (e₁ ++ e₂) s u := by
  intro rest
  rw [List.length_append, List.append_assoc, runSteps_add (h₁ _), h₂]

/-- A command's own run, as a part of a longer list of events. -/
theorem performs_command {i : Instr} {v : Word} {n : Nat} {s t : State}
    (hword : encode i = .cmdWord v)
    (hrun : ∀ rest, runSteps (n + 1) { s with
        agenda := .host (.wr 0 v) :: List.replicate n .engine ++ rest } =
      .next { t with agenda := rest }) : Performs (commandEvents i n) s t := by
  have hevents : commandEvents i n = .host (.wr 0 v) :: List.replicate n .engine := by
    rw [commandEvents, cmdEvents, hword]
    rfl
  intro rest
  rw [hevents, List.length_cons, List.length_replicate]
  exact hrun rest

section hand

variable {s : State}

theorem performs_init (h : Ready s) : Performs (commandEvents .init 1) s (initHash s) :=
  performs_command rfl (runSteps_init h)

theorem performs_chkrst (h : Ready s) (hl : lenIllegal s = false) :
    Performs (commandEvents .chkrst 1) s (restartSequence (latchLength s)) :=
  performs_command rfl (runSteps_chkrst h hl)

theorem performs_chknxt (h : Ready s) (hne : s.blk ≠ s.nblk) :
    Performs (commandEvents .chknxt 1) s (produceBlock s) :=
  performs_command rfl (runSteps_chknxt h hne)

theorem performs_loadw (h : Ready s) : Performs (commandEvents .loadw 1) s (loadWorking s) :=
  performs_command rfl (runSteps_loadw h)

theorem performs_round (h : Ready s) :
    Performs (commandEvents .round 64) s (compressWorking s) := by
  rw [compressWorking]
  exact performs_command rfl (runSteps_round h)

theorem performs_chain (h : Ready s) : Performs (commandEvents .chain 1) s (chainHash s) :=
  performs_command rfl (runSteps_chain h)

theorem performs_serial (h : Ready s) :
    Performs (commandEvents .serial 1) s (serialDigest s) :=
  performs_command rfl (runSteps_serial h)

/-- One pass by hand, from a ready lane with a block left. -/
theorem performs_pass (h : Ready s) (hne : s.blk ≠ s.nblk) :
    Performs passEvents s (blockPass s) := by
  have hchunk := ready_produceBlock h
  have hload := ready_loadWorking hchunk
  exact (((performs_chknxt h hne).append (performs_loadw hchunk)).append
    (performs_round hload)).append (performs_chain (ready_compressWorking hload))

/-- The sequence by hand up to the end of pass k. -/
theorem performs_start_passes (h : Ready s) (hl : lenIllegal s = false) {k : Nat}
    (hk : k ≤ nblkf s.len.toNat) :
    Performs (commandEvents .init 1 ++ commandEvents .chkrst 1 ++
      (List.replicate k passEvents).flatten) s (blockPass^[k] (startSequence s)) := by
  induction k with
  | zero =>
    rw [List.replicate_zero, List.flatten_nil, List.append_nil]
    exact (performs_init h).append (performs_chkrst (ready_initHash h) hl)
  | succ k ih =>
    have hlt := ((lenIllegal_eq_false s).mp hl).1
    have hready := ready_iterate_blockPass hlt h (Nat.le_of_succ_le hk)
    rw [List.replicate_succ', List.flatten_concat, ← List.append_assoc,
      Function.iterate_succ_apply']
    exact (ih (Nat.le_of_succ_le hk)).append
      (performs_pass hready (iterate_blockPass_blk_ne hlt hk))

/-- The whole hand-issued sequence. -/
theorem performs_handSequence (h : Ready s) (hl : lenIllegal s = false) :
    Performs (handSequence (nblkf s.len.toNat)) s
      (serialDigest (blockPass^[nblkf s.len.toNat] (startSequence s))) := by
  have hready := ready_iterate_blockPass ((lenIllegal_eq_false s).mp hl).1 h le_rfl
  exact (performs_start_passes h hl le_rfl).append (performs_serial hready)

/-- INIT and CHKRST are 4 events, and each pass is 71. -/
theorem start_passes_length (k : Nat) :
    (commandEvents .init 1 ++ commandEvents .chkrst 1 ++
      (List.replicate k passEvents).flatten).length = 4 + 71 * k := by
  have hstart : (commandEvents .init 1 ++ commandEvents .chkrst 1).length = 4 := rfl
  have hpass : passEvents.length = 71 := rfl
  rw [List.length_append, hstart, List.length_flatten, List.map_replicate, List.sum_replicate,
    hpass, smul_eq_mul, Nat.mul_comm]

/-- The sequence for n blocks begins with the sequence up to the end of pass k. -/
theorem start_passes_prefix {k n : Nat} (hk : k ≤ n) :
    commandEvents .init 1 ++ commandEvents .chkrst 1 ++ (List.replicate k passEvents).flatten <+:
      handSequence n := by
  obtain ⟨j, rfl⟩ := Nat.exists_eq_add_of_le hk
  refine ⟨(List.replicate j passEvents).flatten ++ commandEvents .serial 1, ?_⟩
  rw [handSequence_eq, ← List.replicate_append_replicate, List.flatten_append]
  simp only [List.append_assoc]

end hand

/-- Settles O21: both runs end where U_SERIAL leaves the lane after the final pass, by
`runSteps_compute` and `performs_handSequence`; the exit test by `iterate_blockPass_last`. -/
theorem computeEqualsHandSequence : Obligations.ComputeEqualsHandSequence := by
  intro s rest h hlt hcap blocks
  have hl := (lenIllegal_eq_false s).mpr ⟨hlt, hcap⟩
  refine ⟨(runSteps_compute h hl rest).trans (performs_handSequence h hl rest).symm,
    fun k _ hk => ?_⟩
  obtain ⟨tail, htail⟩ := start_passes_prefix hk
  have hrun := performs_start_passes h hl hk (tail ++ rest)
  rw [start_passes_length, ← List.append_assoc, htail] at hrun
  refine ⟨_, hrun, (ready_iterate_blockPass hlt h hk).busy, ?_⟩
  show (blockPass^[k] (startSequence s)).last = true ↔ k = nblkf s.len.toNat
  rw [iterate_blockPass_last hlt hk, decide_eq_true_iff]

end Sys2Proof.Machine
end

section
/-! PROOFS. The hex formatter, NOP and the host port (44_formatter_and_system.md): the two commands,
what the characters of HEX tell, what a command word's write leaves unchanged, and the effect of the
host's reads and message writes. -/

namespace Sys2Proof.Machine

/-! ### How an event reaches its meaning (R196 to R199) -/

/-- A word that names a command runs it (R197). -/
theorem cmdWrite_legal {v : Word} {i : Instr} (h : decode (.cmdWord v) = .ok i) (s : State) :
    cmdWrite v s = exec i s := by
  rw [cmdWrite, h]

/-- A 32-bit row is read as a command word. -/
theorem decode_of_decodeTableWord {w : Nat} {i : Instr} (h : decodeTableWord 32 w = some i) :
    decode (.cmdWord (BitVec.ofNat 32 w)) = .ok i := by
  rw [decodeTableWord, if_neg (by decide)] at h
  split at h
  · cases hd : decode (.cmdWord (BitVec.ofNat 32 w)) with
    | ok j =>
      rw [hd] at h
      exact congrArg Except.ok (Option.some.inj h)
    | error e =>
      rw [hd] at h
      cases h
  · cases h

/-- Settles O55: the event is a write to CMD, and the decoded word is executed. -/
theorem stepRunsTheCommand : Obligations.StepRunsTheCommand :=
  ⟨fun _ _ _ _ ha hd => (step_host ha).trans (cmdWrite_legal hd _),
    fun s w _ hd => (step_host (s := s.withFetchWord 32 w) rfl).trans
      (cmdWrite_legal (decode_of_decodeTableWord hd) s)⟩

/-- Settles O38: a read is `answer` with the value read. -/
theorem readsChangeNothing : Obligations.ReadsChangeNothing :=
  fun _ _ => ⟨fun _ => step_host, fun _ => step_host⟩

/-! ### A message write (R198) -/

section messageWrite

variable {s : State} {a : BitVec 61} (b : Byte)

theorem msgWrite_outside (h : msgCap s ≤ a.toNat) : msgWrite a b s = s :=
  if_neg (Nat.not_lt.mpr h)

theorem msgWrite_inside (h : a.toNat < msgCap s) :
    msgWrite a b s = guardWrite (memWrite a.toNat b) s :=
  if_pos h

/-- A faulted lane drops a message write, inside the memory or outside it. -/
theorem msgWrite_err (h : s.err = true) : msgWrite a b s = s := by
  rcases Nat.lt_or_ge a.toNat (msgCap s) with hin | hout
  · rw [msgWrite_inside b hin, guardWrite_err _ h]
  · exact msgWrite_outside b hout

theorem msgWrite_busy (h : a.toNat < msgCap s) (he : s.err = false) (hb : s.busy = true) :
    msgWrite a b s = raiseFault .busy s := by
  rw [msgWrite_inside b h, guardWrite_busy _ he hb]

theorem msgWrite_idle (h : a.toNat < msgCap s) (he : s.err = false) (hb : s.busy = false) :
    msgWrite a b s = memWrite a.toNat b s := by
  rw [msgWrite_inside b h, guardWrite_idle _ he hb]

/-- The byte just written is read back (R199). -/
theorem msgRead_memWrite_same (h : a.toNat < msgCap s) : msgRead (memWrite a.toNat b s) a = b :=
  (if_pos h).trans (memRead_memWrite_same a.toNat b s)

end messageWrite

/-- Settles O40: the test of the address, then the guard of a host write, then the store. -/
theorem messageWriteEffect : Obligations.MessageWriteEffect := by
  intro s a b rest ha
  have hstep {t : State} (h : msgWrite a b { s with agenda := rest } = t) : step s = .next t :=
    (step_host ha).trans (congrArg Host.Outcome.next h)
  refine ⟨fun h => hstep ?_, fun hin he hb => hstep (msgWrite_busy b hin he hb),
    fun hin he hb => ⟨_, hstep (msgWrite_idle b hin he hb), ?_, ?_, rfl⟩⟩
  · rcases h with hout | he
    · exact msgWrite_outside b hout
    · exact msgWrite_err b he
  · exact msgRead_memWrite_same (s := { s with agenda := rest }) b hin
  · exact fun a' hne => msgRead_memWrite_other b { s with agenda := rest } hne

/-! ### What the write of a command word leaves unchanged (R197, R216) -/

section commandWord

variable {s t : State} {r : BitVec 6} {v : Word}

/-- A register write lists no event and returns nothing. -/
theorem HostEffect.wr_events (h : HostEffect s (.wr r v) t) :
    t.agenda = s.agenda ∧ t.replies = s.replies := by
  cases h <;> exact ⟨rfl, rfl⟩

/-- A faulted lane drops a register write (R217). -/
theorem HostEffect.wr_of_err (h : HostEffect s (.wr r v) t) (herr : s.err = true) : t = s := by
  cases h
  case regIgnored => rfl
  all_goals
    rename s.err = false => hne
    exact absurd herr (Bool.eq_false_iff.mp hne)

/-- A register write writes DVALID and ERRCODE only at fault entry. -/
theorem HostEffect.wr_flags (h : HostEffect s (.wr r v) t) (hsame : t.err = s.err) :
    t.dvalid = s.dvalid ∧ t.errCode = s.errCode := by
  cases h
  case regFaulted =>
    rename s.err = false => hne
    exact absurd (hsame.trans hne) (by simp)
  all_goals exact ⟨rfl, rfl⟩

end commandWord

theorem encode_injective : Function.Injective encode := fun i j h =>
  Except.ok.inj ((decode_encode i).symm.trans ((congrArg decode h).trans (decode_encode j)))

/-- Settles O22: a command is one of the effects of a write to CMD, none of which writes the
datapath or MSG; of the words that latch a length, 2 is CHKRST and 8 is COMPUTE. -/
theorem commandsFrame : Obligations.CommandsFrame := by
  intro i v s t hword hexec
  have heff : HostEffect s (.wr 0 v) t := by
    obtain ⟨t', hexec', heff⟩ := exec_effect hword s
    cases hexec.symm.trans hexec'
    exact heff
  have hlen : t.len = s.len := by
    by_contra hne
    simpa using heff.len hne
  have hmsg : t.msg = s.msg := heff.msg.resolve_right (by simp)
  have hmlen (hchkrst : i ≠ .chkrst) (hcompute : i ≠ .compute) : t.mlen = s.mlen := by
    by_contra hne
    rcases heff.mlen hne with h | h | h
    · cases h
    · cases h
      exact hchkrst (encode_injective hword)
    · cases h
      exact hcompute (encode_injective hword)
  obtain ⟨hh, hw, hm, hdigest, hhex, hnblk, hblk, hlast, hstep⟩ := heff.frame (by simp)
  obtain ⟨hparams, hpowerUp⟩ := heff.params
  obtain ⟨hagenda, hreplies⟩ := heff.wr_events
  exact ⟨hh, hw, hm, hdigest, hhex, hlen, hnblk, hblk, hstep, hlast, hparams, hpowerUp, hagenda,
    hreplies, fun a => msgRead_congr a hmsg hparams hpowerUp, hmlen, heff.wr_flags, heff.wr_of_err⟩

/-! ### NOP (R192, R193) -/

/-- Settles O11: acceptance by the guard, U_NOP by its definition, and the whole command by
`runSteps_accept_engine`, with no effect before the return to IDLE. -/
theorem nopCommand : Obligations.NopCommand := by
  refine ⟨fun _ => exec_accept_idle rfl, fun s hu => ?_, fun s rest h => ?_⟩
  · rw [engineEvent_eq, afterEngine_uNop hu]
    rfl
  · exact runSteps_accept_engine (i := .nop) (effect := id) rfl (fun _ => rfl) (fun _ => rfl) h rest

/-! ### HEXFMT (R190, R191) -/

/-- What U_HEX writes. -/
def formatDigest (s : State) : State := { s with hex := hexString s.digest }

/-- The whole command from a ready lane. -/
theorem runSteps_hexfmt {s : State} (h : Ready s) (rest : List Event) :
    runSteps 2 { s with agenda := .host (.wr 0 0x00000009) :: .engine :: rest } =
      .next (formatDigest { s with agenda := rest }) :=
  runSteps_accept_engine (i := .hexfmt) (effect := formatDigest) rfl (fun _ => rfl)
    (fun _ => afterEngine_uHex rfl) h rest

/-- Characters 2k and 2k + 1 are the two digits of byte k. -/
theorem hexString_getElem? (d : Vector Byte 16) (k : Fin 16) :
    (hexString d)[2 * k.val]? = some (hexDigit d[k] 0) ∧
      (hexString d)[2 * k.val + 1]? = some (hexDigit d[k] 1) := by
  have hk := k.isLt
  have hdigit (j : Nat) (hj : j < 2) :
      (hexString d)[2 * k.val + j]? = some (hexDigit d[k] j) := by
    rw [Vector.getElem?_eq_getElem (by omega), hexString, Vector.getElem_ofFn,
      show (2 * k.val + j) / 2 = k.val by omega, show (2 * k.val + j) % 2 = j by omega,
      Vector.getElem?_eq_getElem hk]
    rfl
  exact ⟨hdigit 0 (by decide), hdigit 1 (by decide)⟩

/-- Settles O16: acceptance by the guard, U_HEX by its definition, the whole command by
`runSteps_hexfmt`, and the characters by `hexString_getElem?`. -/
theorem hexfmtCommand : Obligations.HexfmtCommand := by
  refine ⟨fun _ => exec_accept_idle rfl, fun s hu => ?_, fun _ rest h => runSteps_hexfmt h rest,
    hexString_getElem?⟩
  rw [engineEvent_eq, afterEngine_uHex hu, microHex, toIdle]

/-! ### The characters (R114, R191) -/

/-- HEXCHAR as a number: the digits from 0x30 on, the letters from 0x61 on. -/
theorem hexChar_toNat (n : BitVec 4) :
    (hexChar n).toNat = if n.toNat < 10 then 0x30 + n.toNat else 0x61 + (n.toNat - 10) := by
  revert n
  decide

theorem hexChar_range (n : BitVec 4) :
    (0x30 ≤ (hexChar n).toNat ∧ (hexChar n).toNat ≤ 0x39) ∨
      (0x61 ≤ (hexChar n).toNat ∧ (hexChar n).toNat ≤ 0x66) := by
  have hn := n.isLt
  rw [hexChar_toNat]
  split <;> omega

/-- The digits lie below the letters, and within each group the code rises with the nibble. -/
theorem hexChar_injective : Function.Injective hexChar := by
  intro n n' h
  have hcode := congrArg BitVec.toNat h
  rw [hexChar_toNat, hexChar_toNat] at hcode
  apply BitVec.eq_of_toNat_eq
  split_ifs at hcode <;> omega

/-- A digit of a byte is HEXCHAR of one of its nibbles. -/
theorem exists_hexDigit_eq (b : Byte) (j : Nat) : ∃ n, hexDigit b j = hexChar n := by
  unfold hexDigit
  split
  · exact ⟨_, rfl⟩
  · exact ⟨_, rfl⟩

/-- A byte is its high nibble and its low nibble. -/
theorem nibbles_append (b : Byte) : b.extractLsb' 4 4 ++ b.extractLsb' 0 4 = b := by
  rw [BitVec.extractLsb'_append_extractLsb'_eq_extractLsb' (show 4 = 0 + 4 from rfl)]
  exact BitVec.extractLsb'_eq_self

/-- The two digits of a byte determine it. -/
theorem eq_of_hexDigit_eq {b b' : Byte} (hhigh : hexDigit b 0 = hexDigit b' 0)
    (hlow : hexDigit b 1 = hexDigit b' 1) : b = b' := by
  rw [← nibbles_append b, ← nibbles_append b', hexChar_injective hhigh, hexChar_injective hlow]

theorem hexString_injective : Function.Injective hexString := by
  intro d d' h
  refine Vector.ext fun k hk => ?_
  obtain ⟨hhigh, hlow⟩ := hexString_getElem? d ⟨k, hk⟩
  obtain ⟨hhigh', hlow'⟩ := hexString_getElem? d' ⟨k, hk⟩
  rw [h] at hhigh hlow
  exact eq_of_hexDigit_eq (Option.some.inj (hhigh.symm.trans hhigh'))
    (Option.some.inj (hlow.symm.trans hlow'))

/-- Settles O47: every character is a HEXCHAR, and `hexString_injective`. -/
theorem hexIsLowercaseAndFaithful : Obligations.HexIsLowercaseAndFaithful := by
  refine ⟨fun d j => ?_, fun _ _ h => hexString_injective h⟩
  obtain ⟨n, hn⟩ := exists_hexDigit_eq (d[j.val / 2]?.getD 0) (j.val % 2)
  have hchar : (hexString d)[j] = hexChar n := (Vector.getElem_ofFn j.isLt).trans hn
  rw [hchar]
  exact hexChar_range n

end Sys2Proof.Machine
end

section
/-! PROOFS. The lane's faults (60_exceptions.md): the engine raises none, which host writes raise
one and in what order of tests, what fault entry assigns, the faulted lane until reset, and the
independence of lanes. -/

namespace Sys2Proof.Machine

variable {s t : State}

/-! ### The engine (R210) -/

/-- An engine event neither enters nor leaves the fault state. -/
theorem afterEngine_upc_fault (s : State) : (afterEngine s).upc = .fault ↔ s.upc = .fault := by
  obtain ⟨_, _, _, _, _, _, _, _, _, _, _, _, _, heq, -, -, -, -, -, -, -, -, -, hfault⟩ :=
    afterEngine_frame s
  rw [heq]
  exact hfault

/-- What `afterEngine_untouched` does not list: the code of a fault and the model's own lists. -/
theorem afterEngine_errCode_events (s : State) :
    (afterEngine s).errCode = s.errCode ∧ (afterEngine s).agenda = s.agenda ∧
      (afterEngine s).replies = s.replies := by
  obtain ⟨_, _, _, _, _, _, _, _, _, _, _, _, _, heq, -⟩ := afterEngine_frame s
  simp [heq]

/-- Settles O24, by the frame of an engine event. -/
theorem engineNeverFaults : Obligations.EngineNeverFaults := by
  intro s
  obtain ⟨hlen, hmlen, herr, hparams, hpowerUp⟩ := afterEngine_untouched s
  obtain ⟨herrCode, hagenda, hreplies⟩ := afterEngine_errCode_events s
  exact ⟨afterEngine s, engineEvent_eq s, herr, herrCode, afterEngine_upc_fault s,
    afterEngine_msg s, hlen, hmlen, hparams, hpowerUp, hagenda, hreplies, msgRead_afterEngine s⟩

/-! ### The order of a write's tests (R215) -/

section registerWrite

variable {r : BitVec 6} (v : Word)

/-- The write of a read-only or reserved register number. -/
theorem regWrite_ignored (h0 : r ≠ 0) (h2 : r ≠ 2) (h3 : r ≠ 3) (s : State) :
    regWrite r v s = .next s := by
  rw [regWrite, if_neg h0, if_neg h2, if_neg h3]

/-- Every write to CMD passes the tests for ERR and BUSY first, whatever the word. -/
theorem exists_cmdWrite_eq_guardWrite (s : State) :
    ∃ act : State → State, cmdWrite v s = .next (guardWrite act s) := by
  by_cases h : ∃ i, decode (.cmdWord v) = .ok i
  · obtain ⟨i, hi⟩ := h
    rw [cmdWrite_legal hi]
    exact exec_command i v (eq_encode_of_decode hi).symm s
  · exact ⟨_, cmdWrite_illegal h s⟩

/-- So does every write of the three registers that react. -/
theorem exists_regWrite_eq_guardWrite (hr : r = 0 ∨ r = 2 ∨ r = 3) (s : State) :
    ∃ act : State → State, regWrite r v s = .next (guardWrite act s) := by
  rcases hr with rfl | rfl | rfl
  · exact exists_cmdWrite_eq_guardWrite v s
  · exact ⟨setLenLo v, rfl⟩
  · exact ⟨setLenHi v, rfl⟩

/-- A faulted lane drops a register write, whatever its number. -/
theorem regWrite_err (r : BitVec 6) (he : s.err = true) : regWrite r v s = .next s := by
  obtain ⟨t, ht, heff⟩ := hostEvent_effect (.wr r v) s
  rw [heff.wr_of_err he] at ht
  exact ht

theorem regWrite_busy (hr : r = 0 ∨ r = 2 ∨ r = 3) (he : s.err = false) (hb : s.busy = true) :
    regWrite r v s = .next (raiseFault .busy s) := by
  obtain ⟨act, hact⟩ := exists_regWrite_eq_guardWrite v hr s
  rw [hact, guardWrite_busy act he hb]

end registerWrite

/-- A word that names no command, written to an idle lane. -/
theorem cmdWrite_illegal_idle {v : Word} (h : ¬ ∃ i, decode (.cmdWord v) = .ok i)
    (he : s.err = false) (hb : s.busy = false) :
    cmdWrite v s = .next (raiseFault .illCmd s) := by
  rw [cmdWrite_illegal h, guardWrite_idle _ he hb]

/-- Settles O35: each clause is the register or message write with its earlier tests passed. -/
theorem writePriority : Obligations.WritePriority := by
  refine ⟨fun s r v h0 h2 h3 => regWrite_ignored v h0 h2 h3 s,
    fun s a b ha => congrArg Host.Outcome.next (msgWrite_outside b ha), fun s e he hwrite => ?_,
    fun s r v he hb hr => regWrite_busy v hr he hb,
    fun s a b he hb ha => congrArg Host.Outcome.next (msgWrite_busy b ha he hb),
    fun s v he hb hv => cmdWrite_illegal_idle ?_ he hb,
    fun s he hb => ⟨fun hlen => ⟨?_, ?_⟩, fun hdone => ?_⟩⟩
  · rcases hwrite with ⟨r, v, rfl⟩ | ⟨a, b, rfl⟩
    · exact regWrite_err v r he
    · exact congrArg Host.Outcome.next (msgWrite_err b he)
  · rw [exists_decode_iff_lt]
    omega
  · exact exec_chkrst_illegal hb he ((lenIllegal_eq_true s).mpr hlen)
  · exact exec_compute_illegal hb he ((lenIllegal_eq_true s).mpr hlen)
  · exact exec_chknxt_done hb he hdone

/-! ### The misuses that fault (R210, R252) -/

/-- R252's conditions on a command word that an idle lane decodes. -/
def commandObeys (s : State) : Instr → Bool
  | .chkrst | .compute => !lenIllegal s
  | .chknxt => !chkdone s
  | _ => true

theorem hostObeys_command {v : Word} {i : Instr} (hi : decode (.cmdWord v) = .ok i)
    (he : s.err = false) (hb : s.busy = false) :
    hostObeys s (.wr 0 v) = commandObeys s i := by
  simp only [hostObeys, hi, he, hb]
  cases i <;> rfl

theorem hostObeys_illegal {v : Word} (h : ¬ ∃ i, decode (.cmdWord v) = .ok i)
    (he : s.err = false) : hostObeys s (.wr 0 v) = false := by
  cases hd : decode (.cmdWord v) with
  | ok i => exact absurd ⟨i, hd⟩ h
  | error e => simp [hostObeys, hd, he]

theorem acceptWithLength_err_eq_lenIllegal (u : UPC) (auto : Bool) (he : s.err = false) :
    (acceptWithLength u auto s).err = lenIllegal s := by
  cases hl : lenIllegal s
  · rw [acceptWithLength_legal u auto hl, accept_err, latchLength_err, he]
  · rw [acceptWithLength_illegal u auto hl, raiseFault_err]

/-- A command that an idle lane executes faults exactly on its own condition. -/
theorem exec_err_eq_not_commandObeys {i : Instr} {v : Word} (h : encode i = .cmdWord v)
    (he : s.err = false) (hb : s.busy = false) :
    ∃ t, exec i s = .next t ∧ t.err = !commandObeys s i := by
  have guarded {act : State → State} (hi : exec i s = .next (guardWrite act s))
      (hact : (act s).err = !commandObeys s i) :
      ∃ t, exec i s = .next t ∧ t.err = !commandObeys s i :=
    ⟨act s, by rw [hi, guardWrite_idle act he hb], hact⟩
  cases i <;> cases h
  case chkrst | compute =>
    exact guarded rfl (by simp [commandObeys, acceptWithLength_err_eq_lenIllegal _ _ he])
  case chknxt => exact guarded rfl (by cases hd : chkdone s <;> simp [commandObeys, hd, he])
  all_goals exact guarded rfl he

/-- A write to CMD of an unfaulted lane faults exactly when the host does not obey R252. -/
theorem cmdWrite_err_eq_not_obeys (v : Word) (he : s.err = false) :
    ∃ t, cmdWrite v s = .next t ∧ t.err = !hostObeys s (.wr 0 v) := by
  cases hb : s.busy with
  | true => exact ⟨_, regWrite_busy v (.inl rfl) he hb, by simp [hostObeys, he, hb]⟩
  | false =>
    by_cases h : ∃ i, decode (.cmdWord v) = .ok i
    · obtain ⟨i, hi⟩ := h
      rw [cmdWrite_legal hi, hostObeys_command hi he hb]
      exact exec_err_eq_not_commandObeys (eq_encode_of_decode hi).symm he hb
    · exact ⟨_, cmdWrite_illegal_idle h he hb, by rw [hostObeys_illegal h he]; rfl⟩

/-- A guarded write whose action raises no fault faults exactly on a busy lane. -/
theorem guardWrite_err_eq_busy {act : State → State} (he : s.err = false)
    (hact : (act s).err = s.err) : (guardWrite act s).err = s.busy := by
  cases hb : s.busy
  · rw [guardWrite_idle act he hb, hact, he]
  · rw [guardWrite_busy act he hb, raiseFault_err]

theorem regWrite_err_eq_not_obeys (r : BitVec 6) (v : Word) (he : s.err = false) :
    ∃ t, regWrite r v s = .next t ∧ t.err = !hostObeys s (.wr r v) := by
  by_cases h0 : r = 0
  · subst h0
    exact cmdWrite_err_eq_not_obeys v he
  · by_cases h2 : r = 2
    · subst h2
      exact ⟨_, rfl, by simp [hostObeys, guardWrite_err_eq_busy he, he]⟩
    · by_cases h3 : r = 3
      · subst h3
        exact ⟨_, rfl, by simp [hostObeys, guardWrite_err_eq_busy he, he]⟩
      · refine ⟨s, regWrite_ignored v h0 h2 h3 s, ?_⟩
        rw [hostObeys, if_neg h0, if_neg (not_or.mpr ⟨h2, h3⟩), he]
        rfl

theorem msgWrite_err_eq_not_obeys (a : BitVec 61) (b : Byte) (he : s.err = false) :
    (msgWrite a b s).err = !hostObeys s (.mw a b) := by
  rcases Nat.lt_or_ge a.toNat (msgCap s) with hin | hout
  · rw [msgWrite_inside b hin, guardWrite_err_eq_busy he rfl]
    simp [hostObeys, he, hin]
  · rw [msgWrite_outside b hout]
    simp [hostObeys, he, hout]

/-- Settles O34, by the kind of event; a read and reset raise no fault. -/
theorem faultsExactlyOnMisuse : Obligations.FaultsExactlyOnMisuse := by
  intro s e he
  suffices h : ∃ t, hostEvent e s = .next t ∧ t.err = !hostObeys s e by
    obtain ⟨t, ht, herr⟩ := h
    exact ⟨t, ht, by simp [herr]⟩
  cases e with
  | rd r => exact ⟨_, rfl, he⟩
  | mr a => exact ⟨_, rfl, he⟩
  | reset => exact ⟨_, rfl, rfl⟩
  | wr r v => exact regWrite_err_eq_not_obeys r v he
  | mw a b => exact ⟨_, rfl, msgWrite_err_eq_not_obeys a b he⟩

/-! ### Fault entry (R216) -/

/-- Of the host's events only a write that reacts raises a fault, and it does nothing else. -/
theorem HostEffect.fault_entry {e : HostEvent} (h : HostEffect s e t) (he : s.err = false)
    (ht : t.err = true) :
    ((∃ r v, e = .wr r v ∧ (r = 0 ∨ r = 2 ∨ r = 3)) ∨ ∃ a b, e = .mw a b) ∧
      ∃ f, t = raiseFault f s := by
  cases h
  case regFaulted r v f hr _ => exact ⟨.inl ⟨r, v, rfl, hr⟩, f, rfl⟩
  case msgFaulted a b _ _ _ => exact ⟨.inr ⟨a, b, rfl⟩, .busy, rfl⟩
  all_goals simp [he] at ht

/-- Settles O33: the engine and a WAIT leave ERR, and a host event that raises it is a fault entry. -/
theorem faultEntryIsSixAssignments : Obligations.FaultEntryIsSixAssignments := by
  intro s t he hs ht
  rcases step_cases hs with ⟨-, ag, rfl, -⟩ | ⟨e, rest, hagenda, -, heff⟩ | ⟨rest, -, -, rfl⟩
  · obtain ⟨-, -, herr, -⟩ := afterEngine_untouched { s with agenda := ag }
    exact absurd (herr.symm.trans ht) (Bool.eq_false_iff.mp he)
  · obtain ⟨hevent, f, rfl⟩ := heff.fault_entry he ht
    refine ⟨e, rest, f, hagenda, hevent, ?_⟩
    cases f <;> rfl
  · obtain ⟨_, _, hwait⟩ := waitEvent_frame { s with agenda := rest }
    rw [hwait] at ht
    exact absurd ht (Bool.eq_false_iff.mp he)

/-! ### The faulted lane (R217) -/

/-- The last poll of a WAIT. -/
theorem waitEvent_of_not_busy (hb : s.busy = false) :
    waitEvent s = answer (.word (regRead s 1)) s := by
  simp [waitEvent, hb]

/-- Settles O32: in FAULT the engine has no event, writes are dropped, reads are answered as ever,
and reset sets R45's values. -/
theorem faultedLaneWaitsForReset : Obligations.FaultedLaneWaitsForReset := by
  intro s rest he hu hb
  obtain ⟨hregRead, hmsgRead⟩ := readsChangeNothing s rest
  refine ⟨fun ha => ?_, fun ha => ?_, fun r v ha => ?_, fun a b ha => ?_, hregRead, hmsgRead,
    fun ha => ?_, fun ha => ⟨_, step_host ha, rfl, rfl, rfl⟩⟩
  · rw [step_idle_agenda ha, afterEngine_fault hu]
  · rw [step_engine ha, afterEngine_fault (s := { s with agenda := rest }) hu]
  · exact (step_host ha).trans (regWrite_err v r he)
  · exact (step_host ha).trans (congrArg Host.Outcome.next (msgWrite_err b he))
  · rw [step_wait ha, waitEvent_of_not_busy (s := { s with agenda := rest }) hb]
    rfl

/-! ### The lanes of a chip (R230) -/

/-- No step stops the lane. -/
theorem exists_step_eq_next (s : State) : ∃ t, step s = .next t := by
  cases ha : s.agenda with
  | nil => exact ⟨_, step_idle_agenda ha⟩
  | cons e rest =>
    cases e with
    | engine => exact ⟨_, step_engine ha⟩
    | wait => exact ⟨_, step_wait ha⟩
    | host e =>
      obtain ⟨t, ht, -⟩ := hostEvent_effect e { s with agenda := rest }
      exact ⟨t, (step_host ha).trans ht⟩

/-- The state after one step of a lane alone. -/
def stepped (s : State) : State :=
  match step s with
  | .next t => t
  | .fault _ | .refused _ => s

theorem step_eq_stepped (s : State) : step s = .next (stepped s) := by
  obtain ⟨t, ht⟩ := exists_step_eq_next s
  simp only [stepped, ht]

/-- A step of lane k replaces lane k by its own next state. -/
theorem stepLane_eq_modify (k : Nat) (c : Chip) :
    Chip.stepLane k c = .next { c with lanes := c.lanes.modify k stepped } := by
  unfold Chip.stepLane
  cases hk : c.lanes[k]? with
  | none => rw [List.modify_eq_self (List.getElem?_eq_none_iff.mp hk)]
  | some s => simp [step_eq_stepped, List.modify_eq_set_getElem?, hk]

/-- Two lanes of a chip, one step each. -/
theorem run_pair_eq_modify (j k : Nat) (c : Chip) :
    Chip.run [j, k] c =
      .next { c with lanes := (c.lanes.modify j stepped).modify k stepped } := by
  simp [Chip.run, stepLane_eq_modify]

theorem chip_reset_getElem? {n k : Nat} (hk : k < n) :
    (Chip.reset n).lanes[k]? = some { State.reset with powerUp := k } := by
  simp [Chip.reset, hk]

/-- Settles O52: a step of a lane is a change at its own place of the list of lanes. -/
theorem lanesAreIndependent : Obligations.LanesAreIndependent := by
  refine ⟨fun c k s hk => ⟨_, stepped s, stepLane_eq_modify k c, step_eq_stepped s, ?_, ?_,
    fun j hj => ?_⟩, fun c j k h => ?_,
    fun n k hk => ⟨_, chip_reset_getElem? hk, rfl, rfl, rfl, rfl, rfl, rfl⟩⟩
  · simp [hk]
  · exact List.length_modify ..
  · simp [hj.symm]
  · rw [run_pair_eq_modify, run_pair_eq_modify, List.modify_modify_ne stepped stepped _ h]

end Sys2Proof.Machine
end

section
/-! PROOFS. Reset and progress (70_reset_and_hazards.md): no step stops, a running command completes
after exactly its number of micro-operations (R250), and only reset leaves the fault state
(R240). -/

namespace Sys2Proof.Machine

variable {s t : State}

/-- Settles O25: an engine event and a WAIT always answer, and so does every host event. -/
theorem everyStepAnswers : Obligations.EveryStepAnswers := exists_step_eq_next

/-! ### How many micro-operations are left (R250) -/

/-- No micro-operation is left exactly when the engine has no event: in the round, STEP is below
64. -/
theorem opsLeft_pos_iff (s : State) : 0 < opsLeft s ↔ s.upc.running = true := by
  have hstep : s.stepCtr.toNat < 64 := s.stepCtr.isLt
  cases ha : s.auto <;> cases hu : s.upc <;> simp [opsLeft, ha, hu, UPC.running, hstep]

theorem Inv.busy_eq (h : Inv s) : s.busy = decide (0 < opsLeft s) := by
  rw [h.busyUpc, Bool.eq_iff_iff, decide_eq_true_iff, opsLeft_pos_iff]

@[simp] theorem opsLeft_toIdle (s : State) : opsLeft (toIdle s) = 0 := rfl

/-- Without AUTO, every command but ROUND is one micro-operation. -/
theorem opsLeft_single (ha : s.auto = false) (hr : s.upc.running = true) (hu : s.upc ≠ .uStep) :
    opsLeft s = 1 := by
  rw [opsLeft, if_neg (by simp [ha])]
  cases hupc : s.upc <;> simp_all [UPC.running]

/-- A micro-operation that hands over to `u` takes one off the count: a single command ends with it,
and under AUTO what is left in `u` has to be one less. -/
theorem opsLeft_handOver_succ {u : UPC} (hauto : t.auto = s.auto) (hr : s.upc.running = true)
    (hround : s.upc = .uStep → s.stepCtr = 63)
    (hnext : s.auto = true → opsLeft { t with upc := u } + 1 = opsLeft s) :
    opsLeft (handOver u t) + 1 = opsLeft s := by
  cases ha : s.auto with
  | true => rw [handOver_auto u (hauto.trans ha), hnext ha]
  | false =>
    rw [handOver_single u (hauto.trans ha), opsLeft_toIdle]
    by_cases hu : s.upc = .uStep
    · simp [opsLeft, ha, hu, hround hu]
    · rw [opsLeft_single ha hr hu]

/-- With LAST = 1 no block is left. -/
theorem Inv.blk_eq_of_last (h : Inv s) (hl : s.last = true) : s.blk = s.nblk := by
  have hval := h.lastValue
  rw [hl, eq_comm, decide_eq_true_iff] at hval
  exact hval.2

/-- U_CHUNK runs with a block left, so BLK does not wrap (R134). -/
theorem Inv.blk_succ_toNat (h : Inv s) (hu : s.upc = .uChunk) :
    (s.blk + 1).toNat = s.blk.toNat + 1 := by
  have hlt : s.blk.toNat + 1 < 2 ^ 56 := (Nat.succ_le_of_lt (h.chunkReady hu)).trans_lt s.nblk.isLt
  exact Nat.mod_eq_of_lt hlt

/-- A turn of U_STEP takes one off the count, the last one by leaving the round. -/
theorem opsLeft_afterStep_succ (hu : s.upc = .uStep) :
    opsLeft (afterStep s.stepCtr s) + 1 = opsLeft s := by
  by_cases h63 : s.stepCtr = 63
  · rw [h63, afterStep_last]
    refine opsLeft_handOver_succ rfl (by simp [hu, UPC.running]) (fun _ => h63) fun ha => ?_
    simp only [opsLeft, ha, hu, h63, if_true, BitVec.ofNat_eq_ofNat, BitVec.toNat_ofNat]
    omega
  · have hlt := s.stepCtr.isLt
    have hne : s.stepCtr.toNat ≠ 63 := by rwa [ne_eq, ← eq_63_iff]
    have hsucc : (s.stepCtr + 1).toNat = s.stepCtr.toNat + 1 := by
      rw [stepCtr_succ, BitVec.toNat_ofNat]
      omega
    rw [afterStep_of_ne h63]
    simp only [opsLeft, hu, hsucc]
    split <;> omega

/-- Each micro-operation takes one off the count: a single command ends, and under AUTO the
successor of R40 needs one less. -/
theorem Inv.opsLeft_afterEngine_succ (h : Inv s) (hr : s.upc.running = true) :
    opsLeft (Machine.afterEngine s) + 1 = opsLeft s := by
  cases hu : s.upc
  case idle | fault => simp [hu, UPC.running] at hr
  case uNop => simp [afterEngine_uNop hu, Machine.microNop, opsLeft, hu]
  case uHex => simp [afterEngine_uHex hu, Machine.microHex, opsLeft, hu]
  case uSerial => simp [afterEngine_uSerial hu, Machine.microSerial, opsLeft, hu]
  case uStep =>
    rw [afterEngine_uStep hu]
    exact opsLeft_afterStep_succ hu
  case uInit =>
    rw [afterEngine_uInit hu]
    refine opsLeft_handOver_succ rfl hr (by simp [hu]) fun ha => ?_
    simp only [opsLeft, ha, hu, if_true]
    omega
  case uRst =>
    have hnblk := ofNat_nblkf_toNat s.mlen.isLt
    rw [afterEngine_uRst hu]
    refine opsLeft_handOver_succ rfl hr (by simp [hu]) fun ha => ?_
    simp only [opsLeft, ha, hu, if_true, hnblk, BitVec.ofNat_eq_ofNat, BitVec.toNat_ofNat]
    omega
  case uChunk =>
    have hlt := h.chunkReady hu
    rw [afterEngine_uChunk hu]
    refine opsLeft_handOver_succ rfl hr (by simp [hu]) fun ha => ?_
    simp only [opsLeft, ha, hu, if_true, h.blk_succ_toNat hu]
    omega
  case uLoadw =>
    have hstep := h.stepZero (h.err_false hr) (by simp [hu])
    rw [afterEngine_uLoadw hu]
    refine opsLeft_handOver_succ rfl hr (by simp [hu]) fun ha => ?_
    simp only [opsLeft, ha, hu, if_true, hstep, BitVec.ofNat_eq_ofNat, BitVec.toNat_ofNat]
    omega
  case uChain =>
    rw [afterEngine_uChain hu]
    refine opsLeft_handOver_succ rfl hr (by simp [hu]) fun ha => ?_
    cases hl : s.last with
    | true => simp [opsLeft, ha, hu, h.blk_eq_of_last hl]
    | false =>
      simp only [opsLeft, ha, hu, if_true, Bool.false_eq_true, if_false]
      omega

/-- In IDLE and FAULT the engine has no event. -/
theorem afterEngine_not_running (hr : s.upc.running = false) : afterEngine s = s := by
  cases hu : s.upc
  case idle => exact afterEngine_idle hu
  case fault => exact afterEngine_fault hu
  all_goals simp [hu, UPC.running] at hr

/-- The same for any lane: where the engine has no event, the count stays 0. -/
theorem Inv.opsLeft_afterEngine (h : Inv s) :
    opsLeft (Machine.afterEngine s) = opsLeft s - 1 := by
  cases hr : s.upc.running with
  | true => exact Nat.eq_sub_of_add_eq (h.opsLeft_afterEngine_succ hr)
  | false =>
    have hzero : opsLeft s = 0 := Nat.eq_zero_of_not_pos (by simp [opsLeft_pos_iff, hr])
    rw [afterEngine_not_running hr, hzero]

/-! ### The engine alone (R250) -/

theorem Inv.iterate_afterEngine (h : Inv s) (k : Nat) :
    Inv (Machine.afterEngine^[k] s) ∧ opsLeft (Machine.afterEngine^[k] s) = opsLeft s - k := by
  induction k with
  | zero => exact ⟨h, rfl⟩
  | succ k ih =>
    obtain ⟨hinv, hleft⟩ := ih
    rw [Function.iterate_succ_apply', hinv.opsLeft_afterEngine, hleft, Nat.sub_sub]
    exact ⟨hinv.afterEngine, rfl⟩

/-- With no event listed, every step is the engine's. -/
theorem runSteps_idle_agenda (k : Nat) (hagenda : s.agenda = []) :
    runSteps k s = .next (afterEngine^[k] s) := by
  induction k generalizing s with
  | zero => rfl
  | succ k ih =>
    obtain ⟨-, hsame, -⟩ := afterEngine_errCode_events s
    rw [runSteps_succ (step_idle_agenda hagenda), ih (hsame.trans hagenda),
      Function.iterate_succ_apply]

/-- After k micro-operations the lane is busy exactly when more than k were left. -/
theorem Inv.busy_iterate_afterEngine (h : Inv s) (k : Nat) :
    (Machine.afterEngine^[k] s).busy = decide (k < opsLeft s) := by
  obtain ⟨hinv, hleft⟩ := h.iterate_afterEngine k
  rw [hinv.busy_eq, hleft]
  exact decide_eq_decide.mpr Nat.sub_pos_iff_lt

/-- Settles O26, by `Inv.busy_iterate_afterEngine`. -/
theorem engineFinishes : Obligations.EngineFinishes := by
  intro s h hagenda
  refine ⟨⟨_, runSteps_idle_agenda _ hagenda, ?_⟩, fun k hk =>
    ⟨_, runSteps_idle_agenda k hagenda, ?_⟩⟩
  · rw [h.busy_iterate_afterEngine, decide_eq_false (Nat.lt_irrefl _)]
  · rw [h.busy_iterate_afterEngine, decide_eq_true hk]

/-! ### The count at acceptance (R250) -/

/-- A command of one micro-operation, accepted. -/
theorem opsLeft_accept_single {u : UPC} (hr : u.running = true) (hu : u ≠ .uStep) (s : State) :
    opsLeft (accept u false s) = 1 :=
  opsLeft_single rfl hr hu

/-- Settles O27: each command by its acceptance; ROUND starts from STEP = 0, and COMPUTE from the
latched length. -/
theorem microOperationCounts : Obligations.MicroOperationCounts := by
  intro s h
  have single {i : Instr} {u : UPC} (hexec : exec i s = .next (accept u false s))
      (hr : u.running = true) (hu : u ≠ .uStep) :
      ∃ t, exec i s = .next t ∧ t.busy = true ∧ opsLeft t = 1 :=
    ⟨_, hexec, rfl, opsLeft_accept_single hr hu s⟩
  refine ⟨fun i hi => ?_, ⟨_, exec_round_idle h.busy h.err, rfl, ?_⟩,
    fun hne => single (exec_chknxt_next h.busy h.err hne) rfl (by simp), fun hlt hcap => ?_⟩
  · rcases hi with rfl | rfl | rfl | rfl | rfl | rfl <;>
      exact single (exec_accept_idle rfl h.busy h.err) rfl (by simp)
  · simp [opsLeft, h.stepCtr]
  · have hl := (lenIllegal_eq_false s).mpr ⟨hlt, hcap⟩
    refine ⟨⟨_, exec_chkrst_legal h.busy h.err hl, rfl,
      opsLeft_accept_single rfl (by simp) (latchLength s)⟩,
      ⟨_, exec_compute_legal h.busy h.err hl, rfl, ?_⟩⟩
    show 3 + 67 * nblkf (latchLength s).mlen.toNat = _
    rw [latchLength_toNat hlt, nblkf]

/-! ### A WAIT (R97) -/

/-- The poll of a busy lane: the engine has its turn, and the WAIT goes on (log 7). -/
theorem waitEvent_of_busy (hb : s.busy = true) :
    waitEvent s =
      { answer (.word (status s)) s with agenda := .engine :: .wait :: s.agenda } := by
  simp only [waitEvent, hb, if_true]
  rfl

/-- One round of a WAIT in a busy lane: a poll and a micro-operation. -/
theorem runSteps_wait_busy {rest : List Event} (hagenda : s.agenda = .wait :: rest)
    (hb : s.busy = true) :
    runSteps 2 s = .next { afterEngine s with
      agenda := .wait :: rest, replies := .word (status s) :: s.replies } := by
  have hpoll := waitEvent_of_busy (s := { s with agenda := rest }) hb
  rw [runSteps_succ ((step_wait hagenda).trans (congrArg Host.Outcome.next hpoll)),
    runSteps_succ (step_engine rfl), runSteps_zero]
  exact congrArg Host.Outcome.next (afterEngine_agenda s _ _)

/-- The last round: the poll of a lane that is not busy. -/
theorem step_wait_not_busy {rest : List Event} (hagenda : s.agenda = .wait :: rest)
    (hb : s.busy = false) :
    step s = .next { answer (.word (status s)) s with agenda := rest } := by
  rw [step_wait hagenda, waitEvent_of_not_busy (s := { s with agenda := rest }) hb]
  rfl

/-- Settles O54, by induction on the number of micro-operations left: each round of the WAIT takes
one off. -/
theorem waitTerminates : Obligations.WaitTerminates := by
  intro s rest
  induction hleft : opsLeft s generalizing s with
  | zero =>
    intro h hagenda
    have hb : s.busy = false := by rw [h.busy_eq, hleft]; rfl
    obtain ⟨hbit, -⟩ := status_flags s
    exact ⟨1, _, status s, s.replies, runSteps_succ (step_wait_not_busy hagenda hb), rfl, hb, rfl,
      hbit.trans hb⟩
  | succ k ih =>
    intro h hagenda
    have hb : s.busy = true := by rw [h.busy_eq, hleft]; rfl
    have hless : opsLeft (afterEngine s) = k := by rw [h.opsLeft_afterEngine, hleft]; rfl
    obtain ⟨n, t, v, more, hrun, hdone⟩ :=
      ih { afterEngine s with agenda := .wait :: rest, replies := .word (status s) :: s.replies }
        hless (h.afterEngine.with_agenda _ _) rfl
    exact ⟨2 + n, t, v, more, (runSteps_add (runSteps_wait_busy hagenda hb)).trans hrun, hdone⟩

/-! ### Reset (R217, R240) -/

/-- R45's values, with MSG, the parameters and the model's own lists left alone. -/
theorem resetLane_eq (s : State) : resetLane s = { s with
    h := ⟨0, 0, 0, 0⟩, w := ⟨0, 0, 0, 0⟩, m := Vector.replicate 16 0,
    digest := Vector.replicate 16 0, hex := Vector.replicate 32 0, len := 0, mlen := 0,
    nblk := 0, blk := 0, stepCtr := 0, upc := .idle, auto := false, busy := false,
    dvalid := false, last := false, err := false, errCode := 0 } := rfl

/-- CHKDONE only. -/
theorem status_resetLane (s : State) : status (resetLane s) = 0x00000008 := by
  apply BitVec.eq_of_toNat_eq
  simp [status_toNat, chkdone_eq_decide]

/-- Right after reset R252 forbids CHKNXT alone: LEN = 0 is legal and BLK = NBLK. -/
theorem commandObeys_resetLane {i : Instr} (hne : i ≠ .chknxt) (s : State) :
    commandObeys (resetLane s) i = true := by
  have hl : lenIllegal (resetLane s) = false := (lenIllegal_eq_false _).mpr (by simp)
  cases i
  case chknxt => exact absurd rfl hne
  case chkrst | compute => simp [commandObeys, hl]
  all_goals rfl

/-- A write to CMD that does not fault an unfaulted lane starts a command. -/
theorem HostEffect.busy_of_command {v : Word} (h : HostEffect s (.wr 0 v) t) (hs : s.err = false)
    (ht : t.err = false) : t.busy = true := by
  cases h
  case regIgnored hignored => simp [hs] at hignored
  case regFaulted => simp at ht
  all_goals rfl

/-- An idle lane accepts a command whose own condition holds. -/
theorem exec_accepted {i : Instr} {v : Word} (hword : encode i = .cmdWord v) (he : s.err = false)
    (hb : s.busy = false) (hobeys : commandObeys s i = true) :
    ∃ t, exec i s = .next t ∧ t.busy = true ∧ t.err = false := by
  obtain ⟨t, hexec, herr⟩ := exec_err_eq_not_commandObeys hword he hb
  obtain ⟨t', hexec', heff⟩ := exec_effect hword s
  cases hexec.symm.trans hexec'
  have ht : t.err = false := by rw [herr, hobeys]; rfl
  exact ⟨t, hexec, heff.busy_of_command he ht, ht⟩

/-- No host event but reset takes a lane out of the fault state. -/
theorem HostEffect.stays_faulted {e : HostEvent} (h : HostEffect s e t) (he : e ≠ .reset)
    (herr : s.err = true) : t.err = true ∧ t.upc = s.upc := by
  cases h
  case reset => exact absurd rfl he
  case regRead | msgRead | regIgnored | msgIgnored => exact ⟨herr, rfl⟩
  all_goals
    rename s.err = false => hne
    exact absurd herr (Bool.eq_false_iff.mp hne)

/-- No step but reset takes a lane out of the fault state (R217). -/
theorem step_stays_faulted (hs : step s = .next t) (herr : s.err = true)
    (hn : nextEvent s ≠ .host .reset) : t.err = true ∧ (s.upc = .fault → t.upc = .fault) := by
  rcases step_cases hs with ⟨-, ag, rfl, -⟩ | ⟨e, rest, -, he, heff⟩ | ⟨rest, -, -, rfl⟩
  · obtain ⟨-, -, hsame, -⟩ := afterEngine_untouched { s with agenda := ag }
    exact ⟨hsame.trans herr, (afterEngine_upc_fault { s with agenda := ag }).mpr⟩
  · obtain ⟨hterr, hupc⟩ := heff.stays_faulted (fun h => hn (he.trans (congrArg _ h))) herr
    exact ⟨hterr, hupc.trans⟩
  · obtain ⟨_, _, hwait⟩ := waitEvent_frame { s with agenda := rest }
    rw [hwait]
    exact ⟨herr, id⟩

/-- Settles O41: the reset event is `resetLane`, after which every command but CHKNXT obeys R252,
and by `step_stays_faulted` no other step leaves the fault state. -/
theorem resetEffect : Obligations.ResetEffect := by
  refine ⟨fun s rest hagenda => ⟨resetLane { s with agenda := rest }, step_host hagenda,
    resetLane_eq _, fun _ => rfl, status_resetLane _, fun i v hword hne =>
      exec_accepted hword rfl rfl (commandObeys_resetLane hne _)⟩,
    fun s t hs => ⟨fun herr ht => ?_, fun herr hupc ht => ?_⟩⟩
  · by_contra hn
    obtain ⟨hterr, -⟩ := step_stays_faulted hs herr hn
    simp [ht] at hterr
  · by_contra hn
    obtain ⟨-, hfault⟩ := step_stays_faulted hs herr hn
    exact ht (hfault hupc)

end Sys2Proof.Machine
end
